-- ==== Sys2Proof/Word.lean ====
section
/-! DEFINITION. The word types of every engine (00_scope.md R9) and the 3-Way triple (44_threeway.md R200). -/

namespace Sys2Proof

/-- An unsigned 8-bit value (R9). -/
abbrev Byte := BitVec 8

/-- An unsigned 32-bit value (R9): register contents, addresses, the words of every engine. -/
abbrev Word := BitVec 32

/-- The 3-Way state `a = (a0, a1, a2)` (44_threeway.md R200). -/
structure Triple where
  a0 : Word
  a1 : Word
  a2 : Word
  deriving DecidableEq, Repr

end Sys2Proof
end

