-- ==== Sys2Proof/Config.lean ====
section
/-! DEFINITION. What is fixed for the machine: the parameters of 00_scope.md R7 and R8, and the free values the spec
leaves open. A free value has no body, so a claim that mentions it holds whatever it is. The constant tables of
10_state.md R35 stand with their engines, in Machine/BlowfishTables.lean, Machine/Gost.lean and Machine/ThreeWay.lean. -/

namespace Sys2Proof.Config

/-- BLOCK_BF, the Blowfish block size in bytes (R7). -/
abbrev blockBf : Nat := 8

/-- BLOCK_GOST (R7). -/
abbrev blockGost : Nat := 8

/-- BLOCK_TW (R7). -/
abbrev blockTw : Nat := 12

/-- BF_KEY_MIN (R7; 41_blowfish.md R126). -/
abbrev bfKeyMin : Nat := 4

/-- BF_KEY_MAX (R7; 41_blowfish.md R126). -/
abbrev bfKeyMax : Nat := 56

/-- GOST_KEY_LEN (R7; 43_gost.md R166). -/
abbrev gostKeyLen : Nat := 32

/-- TW_KEY_LEN (R7; 44_threeway.md R212). -/
abbrev twKeyLen : Nat := 12

/-- PAD_BYTE (R7). -/
abbrev padByte : Byte := 0x80#8

/-- NULL_ADDR (R8; 20_memory.md R69). -/
abbrev nullAddr : Word := 0#32

/-- The number of byte addresses, 2^32 (R8 ADDR_WIDTH; 20_memory.md R50). -/
abbrev addrSpace : Nat := 4294967296

/-- REG_BASE, the host address of the register window (R8): OPEN, and no rule reads it (D32). DESIGN CHOICE, log 14; safe. -/
opaque regBase : Word

/-- ENTROPY (R8; 40_byte_utilities.md R97): the byte the entropy agent delivers as its `k`-th, under no law.
DESIGN CHOICE of form, log 6; safe. -/
opaque entropy (k : Nat) : Byte

/-- What word `i` of the key-slot storage holds after the `k`-th reset event (10_state.md R38: unspecified).
DESIGN CHOICE of form, log 5; safe. -/
opaque resetWord (k i : Nat) : Word

/-- What byte `i` of the GOST packed tables holds after the `k`-th reset event (10_state.md R38: unspecified).
DESIGN CHOICE of form, log 5; safe. -/
opaque resetByte (k i : Nat) : Byte

end Sys2Proof.Config
end

