-- ==== Sys2Proof/Syntax.lean ====
section
/-! DEFINITION. The 24 commands of 30_encoding.md R74, the engines and operations they are made of, and what the host
can do at the core's port: its register accesses, its memory writes and reset (R78, 10_state.md R28, 70_reset_and_hazards.md
R340), with the pseudo-instructions of R79. -/

namespace Sys2Proof

/-- The three engines (00_scope.md R12), in the order of ENG (30_encoding.md R70). -/
inductive Engine
  | bf
  | gost
  | tw
  deriving DecidableEq, Repr

/-- The operations of 30_encoding.md R72. -/
inductive Op
  | keyset
  | wipe
  | encb
  | decb
  | ecbe
  | ecbd
  | cbce
  | cbcd
  deriving DecidableEq, Repr

/-- The 24 commands, one constructor per row of the opcode table (30_encoding.md R74). A command has no operand
fields: its operands are host registers (R71). -/
inductive Instr
  | bfKeyset
  | bfWipe
  | bfEncb
  | bfDecb
  | bfEcbe
  | bfEcbd
  | bfCbce
  | bfCbcd
  | gostKeyset
  | gostWipe
  | gostEncb
  | gostDecb
  | gostEcbe
  | gostEcbd
  | gostCbce
  | gostCbcd
  | twKeyset
  | twWipe
  | twEncb
  | twDecb
  | twEcbe
  | twEcbd
  | twCbce
  | twCbcd
  deriving DecidableEq, Repr

/-- The engine a command acts on (R74). -/
def Instr.engine : Instr → Engine
  | .bfKeyset | .bfWipe | .bfEncb | .bfDecb | .bfEcbe | .bfEcbd | .bfCbce | .bfCbcd => .bf
  | .gostKeyset | .gostWipe | .gostEncb | .gostDecb | .gostEcbe | .gostEcbd | .gostCbce | .gostCbcd => .gost
  | .twKeyset | .twWipe | .twEncb | .twDecb | .twEcbe | .twEcbd | .twCbce | .twCbcd => .tw

/-- The operation of a command (R74). -/
def Instr.op : Instr → Op
  | .bfKeyset | .gostKeyset | .twKeyset => .keyset
  | .bfWipe | .gostWipe | .twWipe => .wipe
  | .bfEncb | .gostEncb | .twEncb => .encb
  | .bfDecb | .gostDecb | .twDecb => .decb
  | .bfEcbe | .gostEcbe | .twEcbe => .ecbe
  | .bfEcbd | .gostEcbd | .twEcbd => .ecbd
  | .bfCbce | .gostCbce | .twCbce => .cbce
  | .bfCbcd | .gostCbcd | .twCbcd => .cbcd

/-- Every command, in the order of the opcode map (R74). -/
def Instr.all : List Instr :=
  [.bfKeyset, .bfWipe, .bfEncb, .bfDecb, .bfEcbe, .bfEcbd, .bfCbce, .bfCbcd,
   .gostKeyset, .gostWipe, .gostEncb, .gostDecb, .gostEcbe, .gostEcbd, .gostCbce, .gostCbcd,
   .twKeyset, .twWipe, .twEncb, .twDecb, .twEcbe, .twEcbd, .twCbce, .twCbcd]

/-- The fields of a command word as it is split, before any of them is checked (R70). -/
structure CmdFields where
  op : Nat
  eng : Nat
  rsv : Nat
  deriving DecidableEq, Repr

/-- The named host registers (10_state.md R23). -/
inductive Reg
  | cmd
  | status
  | src
  | len
  | dst
  | iva
  | outlen
  deriving DecidableEq, Repr

/-- One thing the host does at the core's port. `width` is the access size in bytes and `offset` the byte offset from
the window's base (10_state.md R23, R28). -/
inductive HostAccess
  /-- A host write of `value` to the register at `offset`. -/
  | write (width offset : Nat) (value : Word)
  /-- A host read of the register at `offset`; its value is what the program observes (30_encoding.md R78). -/
  | read (width offset : Nat)
  /-- The host writes bytes to its memory, the first at `addr` (30_encoding.md R78 `mem`). -/
  | mem (addr : Word) (bytes : List Byte)
  /-- The reset event (70_reset_and_hazards.md R340). -/
  | reset
  /-- A second host touches the register window (60_exceptions.md R311). -/
  | otherHost
  deriving DecidableEq, Repr

/-- One line of a host program (30_encoding.md R78). -/
inductive HostLine
  | wr (r : Reg) (value : Word)
  | rd (r : Reg)
  | cmd (i : Instr)
  | mem (addr : Word) (bytes : List Byte)
  deriving DecidableEq, Repr

/-- The pseudo-instructions of 30_encoding.md R79: `k` and `s` are source addresses, `n` a length, `d` a destination
address and `iv` an IV address. -/
inductive Pseudo
  | keyset (e : Engine) (k n : Word)
  | wipe (e : Engine)
  | encb (e : Engine) (s d : Word)
  | decb (e : Engine) (s d : Word)
  | ecbe (e : Engine) (s n d : Word)
  | ecbd (e : Engine) (s n d : Word)
  | cbce (e : Engine) (s n d iv : Word)
  | cbcd (e : Engine) (s n d : Word)
  deriving DecidableEq, Repr

end Sys2Proof
end

