-- ==== Sys2Proof/WellFormed.lean ====
section
/-! DEFINITION. What makes a command word and a host access well formed. A command as syntax has no operand, so the
checks are on the fields of the word (30_encoding.md R74) and on the access that carries it (10_state.md R28). -/

namespace Sys2Proof

/-- `RSV = 0`, `ENG ∈ {0, 1, 2}` and `OP ∈ {1, ..., 8}` (30_encoding.md R74). -/
def CmdFields.wellFormed (f : CmdFields) : Bool :=
  f.rsv == 0 && decide (f.eng ≤ 2) && decide (1 ≤ f.op ∧ f.op ≤ 8)

/-- Only aligned 32-bit accesses to offsets 0x00 to 0x3C are in the model (10_state.md R28). -/
def wellFormedOffset (width offset : Nat) : Bool :=
  width == 4 && offset % 4 == 0 && decide (offset ≤ 0x3C)

/-- A host access the core gives a meaning to: an aligned 32-bit access inside the window, by the one host
(10_state.md R28; 60_exceptions.md R311). -/
def HostAccess.wellFormed : HostAccess → Bool
  | .write width offset _ => wellFormedOffset width offset
  | .read width offset => wellFormedOffset width offset
  | .mem _ _ => true
  | .reset => true
  | .otherHost => false

/-- `wr REG` names SRC, LEN, DST, IVA or CMD (30_encoding.md R78). -/
def HostLine.wellFormed : HostLine → Bool
  | .wr .status _ => false
  | .wr .outlen _ => false
  | _ => true

end Sys2Proof
end

