-- ==== Sys2Proof/Decode.lean ====
section
/-! DEFINITION. Decoding and encoding of command words (30_encoding.md R70 to R77), the offsets of the host registers
(10_state.md R23), and the text and pseudo-instruction forms of a host program (30_encoding.md R78, R79). -/

namespace Sys2Proof

/-- Why a word is illegal (30_encoding.md R75). -/
inductive Illegal
  /-- `RSV != 0`. -/
  | reservedBits
  /-- `ENG = 3`. -/
  | reservedEngine
  /-- `OP ∈ {0x0, 0x9, ..., 0xF}`. -/
  | reservedOp
  deriving DecidableEq, Repr

/-- What a 32-bit word decodes to: one of the 24 commands or ILLEGAL (30_encoding.md R76). -/
inductive Decoded
  | command (i : Instr)
  | illegal (why : Illegal)
  deriving DecidableEq, Repr

/-- `OP = v[3:0]`, `ENG = v[5:4]` and `RSV = v[31:6]` (30_encoding.md R70). -/
def splitWord (v : Word) : CmdFields :=
  { op := (v.extractLsb' 0 4).toNat
    eng := (v.extractLsb' 4 2).toNat
    rsv := (v.extractLsb' 6 26).toNat }

/-- ENG (30_encoding.md R70); 3 is reserved. -/
def decodeEngine : Nat → Option Engine
  | 0 => some .bf
  | 1 => some .gost
  | 2 => some .tw
  | _ => none

/-- OP (30_encoding.md R72); 0 and 9 to 15 are reserved. -/
def decodeOp : Nat → Option Op
  | 1 => some .keyset
  | 2 => some .wipe
  | 3 => some .encb
  | 4 => some .decb
  | 5 => some .ecbe
  | 6 => some .ecbd
  | 7 => some .cbce
  | 8 => some .cbcd
  | _ => none

/-- The command of an engine and an operation: the OP by ENG grid of 30_encoding.md R72 and R74. -/
def Instr.make : Engine → Op → Instr
  | .bf, .keyset => .bfKeyset
  | .bf, .wipe => .bfWipe
  | .bf, .encb => .bfEncb
  | .bf, .decb => .bfDecb
  | .bf, .ecbe => .bfEcbe
  | .bf, .ecbd => .bfEcbd
  | .bf, .cbce => .bfCbce
  | .bf, .cbcd => .bfCbcd
  | .gost, .keyset => .gostKeyset
  | .gost, .wipe => .gostWipe
  | .gost, .encb => .gostEncb
  | .gost, .decb => .gostDecb
  | .gost, .ecbe => .gostEcbe
  | .gost, .ecbd => .gostEcbd
  | .gost, .cbce => .gostCbce
  | .gost, .cbcd => .gostCbcd
  | .tw, .keyset => .twKeyset
  | .tw, .wipe => .twWipe
  | .tw, .encb => .twEncb
  | .tw, .decb => .twDecb
  | .tw, .ecbe => .twEcbe
  | .tw, .ecbd => .twEcbd
  | .tw, .cbce => .twCbce
  | .tw, .cbcd => .twCbcd

/-- The command whose fields these are, or why the word is illegal (30_encoding.md R74, R75). -/
def decodeFields (f : CmdFields) : Decoded :=
  if f.rsv ≠ 0 then .illegal .reservedBits
  else
    match decodeEngine f.eng with
    | none => .illegal .reservedEngine
    | some e =>
      match decodeOp f.op with
      | none => .illegal .reservedOp
      | some o => .command (.make e o)

/-- The decoder: total, and it reads no state (30_encoding.md R76). -/
def decode (v : Word) : Decoded := decodeFields (splitWord v)

/-- The value of ENG (30_encoding.md R70). -/
def Engine.code : Engine → Nat
  | .bf => 0
  | .gost => 1
  | .tw => 2

/-- The value of OP (30_encoding.md R72). -/
def Op.code : Op → Nat
  | .keyset => 1
  | .wipe => 2
  | .encb => 3
  | .decb => 4
  | .ecbe => 5
  | .ecbd => 6
  | .cbce => 7
  | .cbcd => 8

/-- The encoder: "A command word's value is `ENG << 4 | OP`" (30_encoding.md R70). -/
def encode (i : Instr) : Word :=
  BitVec.ofNat 32 i.engine.code <<< 4 ||| BitVec.ofNat 32 i.op.code

/-- What the decoder reads from an instruction of `nbits` bits whose bits are `w`, as spec/opcode_table.json numbers
them: bit 0 is the least significant bit of the one 32-bit word; every bit above `nbits` is 0. -/
def decodeTableWord (nbits w : Nat) : Option Instr :=
  match decode (BitVec.ofNat 32 (w % 2 ^ nbits)) with
  | .command i => some i
  | .illegal _ => none

/-- The byte offset of a register from the window's base (10_state.md R23). -/
def Reg.offset : Reg → Nat
  | .cmd => 0x00
  | .status => 0x04
  | .src => 0x08
  | .len => 0x0C
  | .dst => 0x10
  | .iva => 0x14
  | .outlen => 0x18

/-- The access a line of a host program stands for (30_encoding.md R78). -/
def HostLine.access : HostLine → HostAccess
  | .wr r v => .write 4 r.offset v
  | .rd r => .read 4 r.offset
  | .cmd i => .write 4 Reg.cmd.offset (encode i)
  | .mem a bs => .mem a bs

/-- The lines a pseudo-instruction stands for, in this order (30_encoding.md R79). -/
def Pseudo.expand : Pseudo → List HostLine
  | .keyset e k n => [.wr .src k, .wr .len n, .cmd (.make e .keyset)]
  | .wipe e => [.cmd (.make e .wipe)]
  | .encb e s d => [.wr .src s, .wr .dst d, .cmd (.make e .encb)]
  | .decb e s d => [.wr .src s, .wr .dst d, .cmd (.make e .decb)]
  | .ecbe e s n d => [.wr .src s, .wr .len n, .wr .dst d, .cmd (.make e .ecbe)]
  | .ecbd e s n d => [.wr .src s, .wr .len n, .wr .dst d, .cmd (.make e .ecbd)]
  | .cbce e s n d iv => [.wr .src s, .wr .len n, .wr .dst d, .wr .iva iv, .cmd (.make e .cbce)]
  | .cbcd e s n d => [.wr .src s, .wr .len n, .wr .dst d, .cmd (.make e .cbcd)]

/-- The mnemonic of a command as the opcode map writes it (30_encoding.md R74). -/
def Instr.mnemonic : Instr → String
  | .bfKeyset => "BF.KEYSET"
  | .bfWipe => "BF.WIPE"
  | .bfEncb => "BF.ENCB"
  | .bfDecb => "BF.DECB"
  | .bfEcbe => "BF.ECBE"
  | .bfEcbd => "BF.ECBD"
  | .bfCbce => "BF.CBCE"
  | .bfCbcd => "BF.CBCD"
  | .gostKeyset => "GOST.KEYSET"
  | .gostWipe => "GOST.WIPE"
  | .gostEncb => "GOST.ENCB"
  | .gostDecb => "GOST.DECB"
  | .gostEcbe => "GOST.ECBE"
  | .gostEcbd => "GOST.ECBD"
  | .gostCbce => "GOST.CBCE"
  | .gostCbcd => "GOST.CBCD"
  | .twKeyset => "TW.KEYSET"
  | .twWipe => "TW.WIPE"
  | .twEncb => "TW.ENCB"
  | .twDecb => "TW.DECB"
  | .twEcbe => "TW.ECBE"
  | .twEcbd => "TW.ECBD"
  | .twCbce => "TW.CBCE"
  | .twCbcd => "TW.CBCD"

/-- The command a mnemonic names: "Mnemonics are case-insensitive" (30_encoding.md R79). -/
def Instr.ofMnemonic (text : String) : Option Instr :=
  Instr.all.find? fun i => i.mnemonic.toList.map Char.toLower == text.toList.map Char.toLower

end Sys2Proof
end

