-- ==== Sys2Proof/Machine/State.lean ====
section
/-! DEFINITION. The machine's state as plain data (10_state.md R21 to R38), the reasons a step can stop, and the state
after reset. -/

namespace Sys2Proof.Machine

/-- The status codes of 60_exceptions.md R300, in the order of their numbers. Codes 8 to 15 are never produced. -/
inductive StatusCode
  | ok
  | empty
  | keyLength
  | noKey
  | illegal
  | length
  | overlap
  | bus
  deriving DecidableEq, Repr

/-- The state of a key slot (10_state.md R25, R30); the encoding 3 never occurs. -/
inductive KeyState
  | empty
  | valid
  | failed
  deriving DecidableEq, Repr

/-- Blowfish key-schedule storage: `P[0..17]` and `S[0..3][0..255]` (10_state.md R31). -/
structure BfSchedule where
  p : Vector Word 18
  s : Vector (Vector Word 256) 4
  deriving DecidableEq, Repr

/-- GOST key-schedule storage: `K[0..7]` and the four packed tables (10_state.md R32). -/
structure GostSchedule where
  k : Vector Word 8
  t87 : Vector Byte 256
  t65 : Vector Byte 256
  t43 : Vector Byte 256
  t21 : Vector Byte 256
  deriving DecidableEq, Repr

/-- 3-Way key-schedule storage: the encryption key `K` and the decryption key `KI` (10_state.md R33). -/
structure TwSchedule where
  k : Triple
  ki : Triple
  deriving DecidableEq, Repr

/-- A key slot: its state and its engine's key-schedule storage (10_state.md R30). -/
structure Slot (α : Type) where
  ks : KeyState
  sched : α
  deriving DecidableEq, Repr

/-- Wiped Blowfish storage: every P and S word is 0 (41_blowfish.md R131; 40_byte_utilities.md R95). -/
def BfSchedule.zero : BfSchedule :=
  { p := Vector.replicate 18 0#32, s := Vector.replicate 4 (Vector.replicate 256 0#32) }

/-- Wiped GOST storage: K and the four T tables are 0 (43_gost.md R181). -/
def GostSchedule.zero : GostSchedule :=
  { k := Vector.replicate 8 0#32
    t87 := Vector.replicate 256 0#8
    t65 := Vector.replicate 256 0#8
    t43 := Vector.replicate 256 0#8
    t21 := Vector.replicate 256 0#8 }

/-- Wiped 3-Way storage: K and KI are 0 (44_threeway.md R231). -/
def TwSchedule.zero : TwSchedule := { k := ⟨0#32, 0#32, 0#32⟩, ki := ⟨0#32, 0#32, 0#32⟩ }

/-- The host's byte memory `Mem` (20_memory.md R50): the bytes that differ from `Memory.unlisted`, with their
addresses strictly rising. The form is `Memory.wf` of Ops.lean. -/
abbrev Memory := List Host.Cell

/-- A range of byte addresses: `size` bytes from `base` on (20_memory.md R51). -/
structure Region where
  base : Nat
  size : Nat
  deriving DecidableEq, Repr

/-- The whole machine (10_state.md R21). The last five fields are the model's own: the host's accesses still to come,
what the host has read, the addresses MEM_ADMIT leaves out, and the counters of the two free values. -/
structure State where
  /-- SRC, the source byte address (R23, R24). -/
  src : Word
  /-- LEN, the source length in bytes (R23, R24). -/
  len : Word
  /-- DST, the destination byte address (R23, R24). -/
  dst : Word
  /-- IVA, the CBC IV address; 0 means "generate" (R23, R24). -/
  iva : Word
  /-- OUTLEN, the output length the last command reported (R26). -/
  outlen : Word
  /-- STATUS.CODE, the status code of the last command (R25). -/
  code : StatusCode
  /-- Slot(BF) (R30, R31). -/
  bf : Slot BfSchedule
  /-- Slot(GOST) (R30, R32). -/
  gost : Slot GostSchedule
  /-- Slot(TW) (R30, R33). -/
  tw : Slot TwSchedule
  /-- The host's memory (20_memory.md R50). -/
  mem : Memory
  /-- The event history: every command's status code, newest first, never cleared (60_exceptions.md R306; log 7). -/
  history : List StatusCode
  /-- The host's accesses still to be performed, oldest first (R29; log 1). -/
  pending : List HostAccess
  /-- The words the host has read, newest first (30_encoding.md R78; log 8). -/
  observed : List Word
  /-- MEM_ADMIT, as the ranges it leaves out (20_memory.md R52; log 2). No step changes it. -/
  holes : List Region
  /-- How many bytes the entropy agent has delivered (40_byte_utilities.md R97; log 6). -/
  drawn : Nat
  /-- How many reset events have happened (log 5). -/
  resets : Nat
  deriving DecidableEq, Repr

/-- Why the machine stops. No command raises one: an error of the spec is a status code (60_exceptions.md R305). -/
inductive Fault
  /-- Raised by a host memory write (`HostAccess.mem`) with a byte that MEM_ADMIT leaves out or past 2^32
  (20_memory.md R51, R52). Safe: the model stops where the spec gives no effect (log 9). -/
  | hostMemory
  deriving DecidableEq, Repr

/-- Why the model gives an access no meaning. -/
inductive Refusal
  /-- Raised by an arm of `exec` whose instruction has no meaning yet (none is left). Safe. -/
  | notModelled (mnemonic : String)
  /-- Raised by a sub-word, misaligned or out-of-window access: "refused: the model gives it no meaning"
  (10_state.md R28). Safe (log 10). -/
  | hostAccess
  /-- Raised by a second host's access to the register window: "The model refuses such use" (60_exceptions.md R311).
  Safe (log 10). -/
  | secondHost
  deriving DecidableEq, Repr

/-- The machine right after reset (10_state.md R38): registers 0, CODE OK, every slot EMPTY. Key-slot storage is
unspecified there and holds 0 here (DESIGN CHOICE, log 4, unsafe). Memory lists nothing (log 3) and every byte is
admitted (log 2). -/
def State.reset : State :=
  { src := 0#32
    len := 0#32
    dst := 0#32
    iva := 0#32
    outlen := 0#32
    code := .ok
    bf := ⟨.empty, BfSchedule.zero⟩
    gost := ⟨.empty, GostSchedule.zero⟩
    tw := ⟨.empty, TwSchedule.zero⟩
    mem := []
    history := []
    pending := []
    observed := []
    holes := []
    drawn := 0
    resets := 0 }

end Sys2Proof.Machine
end

