-- ==== Sys2Proof/Machine/Operands.lean ====
section
/-! DEFINITION. Byte order and packing (00_scope.md R10, 20_memory.md R54), shifts and rotations (R9), padding
(40_byte_utilities.md R90 to R94), byte-wise XOR (46_mode_cbc.md R274), and how a byte string is cut into blocks. All are
pure functions on plain data. -/

namespace Sys2Proof.Machine

/-- `rotl32(a, n) = (a << n) | (a >> (32 - n))` for 0 < n < 32 (00_scope.md R9). -/
def rotl32 (a : Word) (n : Nat) : Word := a <<< n ||| a >>> (32 - n)

/-- `le32(b0, b1, b2, b3) = b0 | b1<<8 | b2<<16 | b3<<24` (00_scope.md R10). -/
def le32 (b0 b1 b2 b3 : Byte) : Word :=
  b0.setWidth 32 ||| b1.setWidth 32 <<< 8 ||| b2.setWidth 32 <<< 16 ||| b3.setWidth 32 <<< 24

/-- `be32(b0, b1, b2, b3) = b0<<24 | b1<<16 | b2<<8 | b3` (00_scope.md R10). -/
def be32 (b0 b1 b2 b3 : Byte) : Word :=
  b0.setWidth 32 <<< 24 ||| b1.setWidth 32 <<< 16 ||| b2.setWidth 32 <<< 8 ||| b3.setWidth 32

/-- `byte_k(x) = x[8k+7 : 8k]` (00_scope.md R9). -/
def byteOf (k : Nat) (x : Word) : Byte := x.extractLsb' (8 * k) 8

/-- `le_bytes(w)`, the inverse of `le32` (00_scope.md R10). -/
def leBytes (w : Word) : List Byte := [byteOf 0 w, byteOf 1 w, byteOf 2 w, byteOf 3 w]

/-- `B[i]`; the rules read no byte past the end of a string, where this answers 0 (00_scope.md R10). -/
def byteAt (b : List Byte) (i : Nat) : Byte := b.getD i 0#8

/-- Word `j` of `words_le(B)`: `le32(B[4j..4j+4))` (00_scope.md R10). -/
def wordLe (b : List Byte) (j : Nat) : Word :=
  le32 (byteAt b (4 * j)) (byteAt b (4 * j + 1)) (byteAt b (4 * j + 2)) (byteAt b (4 * j + 3))

/-- `T[i]` of a table; every index the rules use is inside its table. -/
def look {w n : Nat} (t : Vector (BitVec w) n) (i : Nat) : BitVec w := t.toList.getD i 0

/-- BLOCK(E) (00_scope.md R7, R12). -/
def blockLen : Engine → Nat
  | .bf => Config.blockBf
  | .gost => Config.blockGost
  | .tw => Config.blockTw

/-- `PaddedLen(n, bs)`, in unbounded integers (40_byte_utilities.md R90). -/
def paddedLen (n bs : Nat) : Nat := n + (bs - n % bs) % bs

/-- `Pad(D, bs)`: 0x80, then zeros, up to `PaddedLen` (40_byte_utilities.md R91). -/
def pad (d : List Byte) (bs : Nat) : List Byte :=
  match paddedLen d.length bs - d.length with
  | 0 => d
  | k + 1 => d ++ Config.padByte :: List.replicate k 0#8

/-- `PaddingIndex(B)`: skip the zero bytes at the end; if the byte before them is 0x80, its index
(40_byte_utilities.md R92). -/
def paddingIndex (b : List Byte) : Option Nat :=
  match b.reverse.dropWhile (· == 0#8) with
  | [] => none
  | last :: before => if last = Config.padByte then some before.length else none

/-- `TrimLen(B, dflt)` (40_byte_utilities.md R93). -/
def trimLen (b : List Byte) (dflt : Nat) : Nat := (paddingIndex b).getD dflt

/-- `(X XOR Y)[i] = X[i] ^ Y[i]` (46_mode_cbc.md R274). -/
def xorBytes (x y : List Byte) : List Byte := List.zipWith (· ^^^ ·) x y

/-- The blocks `W[j*bs .. (j+1)*bs)` for `j = 0 .. k-1` (45_mode_ecb.md R251). -/
def blocksOf (bs : Nat) : Nat → List Byte → List (List Byte)
  | 0, _ => []
  | k + 1, w => w.take bs :: blocksOf bs k (w.drop bs)

/-- All the blocks of a string whose length is a multiple of `bs`. -/
def toBlocks (bs : Nat) (w : List Byte) : List (List Byte) := blocksOf bs (w.length / bs) w

end Sys2Proof.Machine
end

