-- ==== Sys2Proof/Machine/BlowfishTables.lean ====
section
/-! DEFINITION. The Blowfish initial tables (42_blowfish_tables.md R150 to R153; layout 41_blowfish.md R110). The spec
supplies them from general knowledge and confirms them by the source's known-answer vectors (93_implementation_defined.md
G1; log 15). The words are the spec's R152 listing, eight a line. -/

namespace Sys2Proof.Machine

/-- P_INIT = BF_INIT[0..17] (R152). -/
def bfInitP : List Word :=
  [0x243f6a88#32, 0x85a308d3#32, 0x13198a2e#32, 0x03707344#32, 0xa4093822#32, 0x299f31d0#32, 0x082efa98#32, 0xec4e6c89#32,
   0x452821e6#32, 0x38d01377#32, 0xbe5466cf#32, 0x34e90c6c#32, 0xc0ac29b7#32, 0xc97c50dd#32, 0x3f84d5b5#32, 0xb5470917#32,
   0x9216d5d9#32, 0x8979fb1b#32]

/-- S_INIT[0][0..63] (R152). -/
def bfInitS0Part0 : List Word :=
  [0xd1310ba6#32, 0x98dfb5ac#32, 0x2ffd72db#32, 0xd01adfb7#32, 0xb8e1afed#32, 0x6a267e96#32, 0xba7c9045#32, 0xf12c7f99#32,
   0x24a19947#32, 0xb3916cf7#32, 0x0801f2e2#32, 0x858efc16#32, 0x636920d8#32, 0x71574e69#32, 0xa458fea3#32, 0xf4933d7e#32,
   0x0d95748f#32, 0x728eb658#32, 0x718bcd58#32, 0x82154aee#32, 0x7b54a41d#32, 0xc25a59b5#32, 0x9c30d539#32, 0x2af26013#32,
   0xc5d1b023#32, 0x286085f0#32, 0xca417918#32, 0xb8db38ef#32, 0x8e79dcb0#32, 0x603a180e#32, 0x6c9e0e8b#32, 0xb01e8a3e#32,
   0xd71577c1#32, 0xbd314b27#32, 0x78af2fda#32, 0x55605c60#32, 0xe65525f3#32, 0xaa55ab94#32, 0x57489862#32, 0x63e81440#32,
   0x55ca396a#32, 0x2aab10b6#32, 0xb4cc5c34#32, 0x1141e8ce#32, 0xa15486af#32, 0x7c72e993#32, 0xb3ee1411#32, 0x636fbc2a#32,
   0x2ba9c55d#32, 0x741831f6#32, 0xce5c3e16#32, 0x9b87931e#32, 0xafd6ba33#32, 0x6c24cf5c#32, 0x7a325381#32, 0x28958677#32,
   0x3b8f4898#32, 0x6b4bb9af#32, 0xc4bfe81b#32, 0x66282193#32, 0x61d809cc#32, 0xfb21a991#32, 0x487cac60#32, 0x5dec8032#32]

/-- S_INIT[0][64..127] (R152). -/
def bfInitS0Part1 : List Word :=
  [0xef845d5d#32, 0xe98575b1#32, 0xdc262302#32, 0xeb651b88#32, 0x23893e81#32, 0xd396acc5#32, 0x0f6d6ff3#32, 0x83f44239#32,
   0x2e0b4482#32, 0xa4842004#32, 0x69c8f04a#32, 0x9e1f9b5e#32, 0x21c66842#32, 0xf6e96c9a#32, 0x670c9c61#32, 0xabd388f0#32,
   0x6a51a0d2#32, 0xd8542f68#32, 0x960fa728#32, 0xab5133a3#32, 0x6eef0b6c#32, 0x137a3be4#32, 0xba3bf050#32, 0x7efb2a98#32,
   0xa1f1651d#32, 0x39af0176#32, 0x66ca593e#32, 0x82430e88#32, 0x8cee8619#32, 0x456f9fb4#32, 0x7d84a5c3#32, 0x3b8b5ebe#32,
   0xe06f75d8#32, 0x85c12073#32, 0x401a449f#32, 0x56c16aa6#32, 0x4ed3aa62#32, 0x363f7706#32, 0x1bfedf72#32, 0x429b023d#32,
   0x37d0d724#32, 0xd00a1248#32, 0xdb0fead3#32, 0x49f1c09b#32, 0x075372c9#32, 0x80991b7b#32, 0x25d479d8#32, 0xf6e8def7#32,
   0xe3fe501a#32, 0xb6794c3b#32, 0x976ce0bd#32, 0x04c006ba#32, 0xc1a94fb6#32, 0x409f60c4#32, 0x5e5c9ec2#32, 0x196a2463#32,
   0x68fb6faf#32, 0x3e6c53b5#32, 0x1339b2eb#32, 0x3b52ec6f#32, 0x6dfc511f#32, 0x9b30952c#32, 0xcc814544#32, 0xaf5ebd09#32]

/-- S_INIT[0][128..191] (R152). -/
def bfInitS0Part2 : List Word :=
  [0xbee3d004#32, 0xde334afd#32, 0x660f2807#32, 0x192e4bb3#32, 0xc0cba857#32, 0x45c8740f#32, 0xd20b5f39#32, 0xb9d3fbdb#32,
   0x5579c0bd#32, 0x1a60320a#32, 0xd6a100c6#32, 0x402c7279#32, 0x679f25fe#32, 0xfb1fa3cc#32, 0x8ea5e9f8#32, 0xdb3222f8#32,
   0x3c7516df#32, 0xfd616b15#32, 0x2f501ec8#32, 0xad0552ab#32, 0x323db5fa#32, 0xfd238760#32, 0x53317b48#32, 0x3e00df82#32,
   0x9e5c57bb#32, 0xca6f8ca0#32, 0x1a87562e#32, 0xdf1769db#32, 0xd542a8f6#32, 0x287effc3#32, 0xac6732c6#32, 0x8c4f5573#32,
   0x695b27b0#32, 0xbbca58c8#32, 0xe1ffa35d#32, 0xb8f011a0#32, 0x10fa3d98#32, 0xfd2183b8#32, 0x4afcb56c#32, 0x2dd1d35b#32,
   0x9a53e479#32, 0xb6f84565#32, 0xd28e49bc#32, 0x4bfb9790#32, 0xe1ddf2da#32, 0xa4cb7e33#32, 0x62fb1341#32, 0xcee4c6e8#32,
   0xef20cada#32, 0x36774c01#32, 0xd07e9efe#32, 0x2bf11fb4#32, 0x95dbda4d#32, 0xae909198#32, 0xeaad8e71#32, 0x6b93d5a0#32,
   0xd08ed1d0#32, 0xafc725e0#32, 0x8e3c5b2f#32, 0x8e7594b7#32, 0x8ff6e2fb#32, 0xf2122b64#32, 0x8888b812#32, 0x900df01c#32]

/-- S_INIT[0][192..255] (R152). -/
def bfInitS0Part3 : List Word :=
  [0x4fad5ea0#32, 0x688fc31c#32, 0xd1cff191#32, 0xb3a8c1ad#32, 0x2f2f2218#32, 0xbe0e1777#32, 0xea752dfe#32, 0x8b021fa1#32,
   0xe5a0cc0f#32, 0xb56f74e8#32, 0x18acf3d6#32, 0xce89e299#32, 0xb4a84fe0#32, 0xfd13e0b7#32, 0x7cc43b81#32, 0xd2ada8d9#32,
   0x165fa266#32, 0x80957705#32, 0x93cc7314#32, 0x211a1477#32, 0xe6ad2065#32, 0x77b5fa86#32, 0xc75442f5#32, 0xfb9d35cf#32,
   0xebcdaf0c#32, 0x7b3e89a0#32, 0xd6411bd3#32, 0xae1e7e49#32, 0x00250e2d#32, 0x2071b35e#32, 0x226800bb#32, 0x57b8e0af#32,
   0x2464369b#32, 0xf009b91e#32, 0x5563911d#32, 0x59dfa6aa#32, 0x78c14389#32, 0xd95a537f#32, 0x207d5ba2#32, 0x02e5b9c5#32,
   0x83260376#32, 0x6295cfa9#32, 0x11c81968#32, 0x4e734a41#32, 0xb3472dca#32, 0x7b14a94a#32, 0x1b510052#32, 0x9a532915#32,
   0xd60f573f#32, 0xbc9bc6e4#32, 0x2b60a476#32, 0x81e67400#32, 0x08ba6fb5#32, 0x571be91f#32, 0xf296ec6b#32, 0x2a0dd915#32,
   0xb6636521#32, 0xe7b9f9b6#32, 0xff34052e#32, 0xc5855664#32, 0x53b02d5d#32, 0xa99f8fa1#32, 0x08ba4799#32, 0x6e85076a#32]

/-- S_INIT[0] = BF_INIT[18..273] (R152). -/
def bfInitS0 : List Word := bfInitS0Part0 ++ bfInitS0Part1 ++ bfInitS0Part2 ++ bfInitS0Part3

/-- S_INIT[1][0..63] (R152). -/
def bfInitS1Part0 : List Word :=
  [0x4b7a70e9#32, 0xb5b32944#32, 0xdb75092e#32, 0xc4192623#32, 0xad6ea6b0#32, 0x49a7df7d#32, 0x9cee60b8#32, 0x8fedb266#32,
   0xecaa8c71#32, 0x699a17ff#32, 0x5664526c#32, 0xc2b19ee1#32, 0x193602a5#32, 0x75094c29#32, 0xa0591340#32, 0xe4183a3e#32,
   0x3f54989a#32, 0x5b429d65#32, 0x6b8fe4d6#32, 0x99f73fd6#32, 0xa1d29c07#32, 0xefe830f5#32, 0x4d2d38e6#32, 0xf0255dc1#32,
   0x4cdd2086#32, 0x8470eb26#32, 0x6382e9c6#32, 0x021ecc5e#32, 0x09686b3f#32, 0x3ebaefc9#32, 0x3c971814#32, 0x6b6a70a1#32,
   0x687f3584#32, 0x52a0e286#32, 0xb79c5305#32, 0xaa500737#32, 0x3e07841c#32, 0x7fdeae5c#32, 0x8e7d44ec#32, 0x5716f2b8#32,
   0xb03ada37#32, 0xf0500c0d#32, 0xf01c1f04#32, 0x0200b3ff#32, 0xae0cf51a#32, 0x3cb574b2#32, 0x25837a58#32, 0xdc0921bd#32,
   0xd19113f9#32, 0x7ca92ff6#32, 0x94324773#32, 0x22f54701#32, 0x3ae5e581#32, 0x37c2dadc#32, 0xc8b57634#32, 0x9af3dda7#32,
   0xa9446146#32, 0x0fd0030e#32, 0xecc8c73e#32, 0xa4751e41#32, 0xe238cd99#32, 0x3bea0e2f#32, 0x3280bba1#32, 0x183eb331#32]

/-- S_INIT[1][64..127] (R152). -/
def bfInitS1Part1 : List Word :=
  [0x4e548b38#32, 0x4f6db908#32, 0x6f420d03#32, 0xf60a04bf#32, 0x2cb81290#32, 0x24977c79#32, 0x5679b072#32, 0xbcaf89af#32,
   0xde9a771f#32, 0xd9930810#32, 0xb38bae12#32, 0xdccf3f2e#32, 0x5512721f#32, 0x2e6b7124#32, 0x501adde6#32, 0x9f84cd87#32,
   0x7a584718#32, 0x7408da17#32, 0xbc9f9abc#32, 0xe94b7d8c#32, 0xec7aec3a#32, 0xdb851dfa#32, 0x63094366#32, 0xc464c3d2#32,
   0xef1c1847#32, 0x3215d908#32, 0xdd433b37#32, 0x24c2ba16#32, 0x12a14d43#32, 0x2a65c451#32, 0x50940002#32, 0x133ae4dd#32,
   0x71dff89e#32, 0x10314e55#32, 0x81ac77d6#32, 0x5f11199b#32, 0x043556f1#32, 0xd7a3c76b#32, 0x3c11183b#32, 0x5924a509#32,
   0xf28fe6ed#32, 0x97f1fbfa#32, 0x9ebabf2c#32, 0x1e153c6e#32, 0x86e34570#32, 0xeae96fb1#32, 0x860e5e0a#32, 0x5a3e2ab3#32,
   0x771fe71c#32, 0x4e3d06fa#32, 0x2965dcb9#32, 0x99e71d0f#32, 0x803e89d6#32, 0x5266c825#32, 0x2e4cc978#32, 0x9c10b36a#32,
   0xc6150eba#32, 0x94e2ea78#32, 0xa5fc3c53#32, 0x1e0a2df4#32, 0xf2f74ea7#32, 0x361d2b3d#32, 0x1939260f#32, 0x19c27960#32]

/-- S_INIT[1][128..191] (R152). -/
def bfInitS1Part2 : List Word :=
  [0x5223a708#32, 0xf71312b6#32, 0xebadfe6e#32, 0xeac31f66#32, 0xe3bc4595#32, 0xa67bc883#32, 0xb17f37d1#32, 0x018cff28#32,
   0xc332ddef#32, 0xbe6c5aa5#32, 0x65582185#32, 0x68ab9802#32, 0xeecea50f#32, 0xdb2f953b#32, 0x2aef7dad#32, 0x5b6e2f84#32,
   0x1521b628#32, 0x29076170#32, 0xecdd4775#32, 0x619f1510#32, 0x13cca830#32, 0xeb61bd96#32, 0x0334fe1e#32, 0xaa0363cf#32,
   0xb5735c90#32, 0x4c70a239#32, 0xd59e9e0b#32, 0xcbaade14#32, 0xeecc86bc#32, 0x60622ca7#32, 0x9cab5cab#32, 0xb2f3846e#32,
   0x648b1eaf#32, 0x19bdf0ca#32, 0xa02369b9#32, 0x655abb50#32, 0x40685a32#32, 0x3c2ab4b3#32, 0x319ee9d5#32, 0xc021b8f7#32,
   0x9b540b19#32, 0x875fa099#32, 0x95f7997e#32, 0x623d7da8#32, 0xf837889a#32, 0x97e32d77#32, 0x11ed935f#32, 0x16681281#32,
   0x0e358829#32, 0xc7e61fd6#32, 0x96dedfa1#32, 0x7858ba99#32, 0x57f584a5#32, 0x1b227263#32, 0x9b83c3ff#32, 0x1ac24696#32,
   0xcdb30aeb#32, 0x532e3054#32, 0x8fd948e4#32, 0x6dbc3128#32, 0x58ebf2ef#32, 0x34c6ffea#32, 0xfe28ed61#32, 0xee7c3c73#32]

/-- S_INIT[1][192..255] (R152). -/
def bfInitS1Part3 : List Word :=
  [0x5d4a14d9#32, 0xe864b7e3#32, 0x42105d14#32, 0x203e13e0#32, 0x45eee2b6#32, 0xa3aaabea#32, 0xdb6c4f15#32, 0xfacb4fd0#32,
   0xc742f442#32, 0xef6abbb5#32, 0x654f3b1d#32, 0x41cd2105#32, 0xd81e799e#32, 0x86854dc7#32, 0xe44b476a#32, 0x3d816250#32,
   0xcf62a1f2#32, 0x5b8d2646#32, 0xfc8883a0#32, 0xc1c7b6a3#32, 0x7f1524c3#32, 0x69cb7492#32, 0x47848a0b#32, 0x5692b285#32,
   0x095bbf00#32, 0xad19489d#32, 0x1462b174#32, 0x23820e00#32, 0x58428d2a#32, 0x0c55f5ea#32, 0x1dadf43e#32, 0x233f7061#32,
   0x3372f092#32, 0x8d937e41#32, 0xd65fecf1#32, 0x6c223bdb#32, 0x7cde3759#32, 0xcbee7460#32, 0x4085f2a7#32, 0xce77326e#32,
   0xa6078084#32, 0x19f8509e#32, 0xe8efd855#32, 0x61d99735#32, 0xa969a7aa#32, 0xc50c06c2#32, 0x5a04abfc#32, 0x800bcadc#32,
   0x9e447a2e#32, 0xc3453484#32, 0xfdd56705#32, 0x0e1e9ec9#32, 0xdb73dbd3#32, 0x105588cd#32, 0x675fda79#32, 0xe3674340#32,
   0xc5c43465#32, 0x713e38d8#32, 0x3d28f89e#32, 0xf16dff20#32, 0x153e21e7#32, 0x8fb03d4a#32, 0xe6e39f2b#32, 0xdb83adf7#32]

/-- S_INIT[1] = BF_INIT[274..529] (R152). -/
def bfInitS1 : List Word := bfInitS1Part0 ++ bfInitS1Part1 ++ bfInitS1Part2 ++ bfInitS1Part3

/-- S_INIT[2][0..63] (R152). -/
def bfInitS2Part0 : List Word :=
  [0xe93d5a68#32, 0x948140f7#32, 0xf64c261c#32, 0x94692934#32, 0x411520f7#32, 0x7602d4f7#32, 0xbcf46b2e#32, 0xd4a20068#32,
   0xd4082471#32, 0x3320f46a#32, 0x43b7d4b7#32, 0x500061af#32, 0x1e39f62e#32, 0x97244546#32, 0x14214f74#32, 0xbf8b8840#32,
   0x4d95fc1d#32, 0x96b591af#32, 0x70f4ddd3#32, 0x66a02f45#32, 0xbfbc09ec#32, 0x03bd9785#32, 0x7fac6dd0#32, 0x31cb8504#32,
   0x96eb27b3#32, 0x55fd3941#32, 0xda2547e6#32, 0xabca0a9a#32, 0x28507825#32, 0x530429f4#32, 0x0a2c86da#32, 0xe9b66dfb#32,
   0x68dc1462#32, 0xd7486900#32, 0x680ec0a4#32, 0x27a18dee#32, 0x4f3ffea2#32, 0xe887ad8c#32, 0xb58ce006#32, 0x7af4d6b6#32,
   0xaace1e7c#32, 0xd3375fec#32, 0xce78a399#32, 0x406b2a42#32, 0x20fe9e35#32, 0xd9f385b9#32, 0xee39d7ab#32, 0x3b124e8b#32,
   0x1dc9faf7#32, 0x4b6d1856#32, 0x26a36631#32, 0xeae397b2#32, 0x3a6efa74#32, 0xdd5b4332#32, 0x6841e7f7#32, 0xca7820fb#32,
   0xfb0af54e#32, 0xd8feb397#32, 0x454056ac#32, 0xba489527#32, 0x55533a3a#32, 0x20838d87#32, 0xfe6ba9b7#32, 0xd096954b#32]

/-- S_INIT[2][64..127] (R152). -/
def bfInitS2Part1 : List Word :=
  [0x55a867bc#32, 0xa1159a58#32, 0xcca92963#32, 0x99e1db33#32, 0xa62a4a56#32, 0x3f3125f9#32, 0x5ef47e1c#32, 0x9029317c#32,
   0xfdf8e802#32, 0x04272f70#32, 0x80bb155c#32, 0x05282ce3#32, 0x95c11548#32, 0xe4c66d22#32, 0x48c1133f#32, 0xc70f86dc#32,
   0x07f9c9ee#32, 0x41041f0f#32, 0x404779a4#32, 0x5d886e17#32, 0x325f51eb#32, 0xd59bc0d1#32, 0xf2bcc18f#32, 0x41113564#32,
   0x257b7834#32, 0x602a9c60#32, 0xdff8e8a3#32, 0x1f636c1b#32, 0x0e12b4c2#32, 0x02e1329e#32, 0xaf664fd1#32, 0xcad18115#32,
   0x6b2395e0#32, 0x333e92e1#32, 0x3b240b62#32, 0xeebeb922#32, 0x85b2a20e#32, 0xe6ba0d99#32, 0xde720c8c#32, 0x2da2f728#32,
   0xd0127845#32, 0x95b794fd#32, 0x647d0862#32, 0xe7ccf5f0#32, 0x5449a36f#32, 0x877d48fa#32, 0xc39dfd27#32, 0xf33e8d1e#32,
   0x0a476341#32, 0x992eff74#32, 0x3a6f6eab#32, 0xf4f8fd37#32, 0xa812dc60#32, 0xa1ebddf8#32, 0x991be14c#32, 0xdb6e6b0d#32,
   0xc67b5510#32, 0x6d672c37#32, 0x2765d43b#32, 0xdcd0e804#32, 0xf1290dc7#32, 0xcc00ffa3#32, 0xb5390f92#32, 0x690fed0b#32]

/-- S_INIT[2][128..191] (R152). -/
def bfInitS2Part2 : List Word :=
  [0x667b9ffb#32, 0xcedb7d9c#32, 0xa091cf0b#32, 0xd9155ea3#32, 0xbb132f88#32, 0x515bad24#32, 0x7b9479bf#32, 0x763bd6eb#32,
   0x37392eb3#32, 0xcc115979#32, 0x8026e297#32, 0xf42e312d#32, 0x6842ada7#32, 0xc66a2b3b#32, 0x12754ccc#32, 0x782ef11c#32,
   0x6a124237#32, 0xb79251e7#32, 0x06a1bbe6#32, 0x4bfb6350#32, 0x1a6b1018#32, 0x11caedfa#32, 0x3d25bdd8#32, 0xe2e1c3c9#32,
   0x44421659#32, 0x0a121386#32, 0xd90cec6e#32, 0xd5abea2a#32, 0x64af674e#32, 0xda86a85f#32, 0xbebfe988#32, 0x64e4c3fe#32,
   0x9dbc8057#32, 0xf0f7c086#32, 0x60787bf8#32, 0x6003604d#32, 0xd1fd8346#32, 0xf6381fb0#32, 0x7745ae04#32, 0xd736fccc#32,
   0x83426b33#32, 0xf01eab71#32, 0xb0804187#32, 0x3c005e5f#32, 0x77a057be#32, 0xbde8ae24#32, 0x55464299#32, 0xbf582e61#32,
   0x4e58f48f#32, 0xf2ddfda2#32, 0xf474ef38#32, 0x8789bdc2#32, 0x5366f9c3#32, 0xc8b38e74#32, 0xb475f255#32, 0x46fcd9b9#32,
   0x7aeb2661#32, 0x8b1ddf84#32, 0x846a0e79#32, 0x915f95e2#32, 0x466e598e#32, 0x20b45770#32, 0x8cd55591#32, 0xc902de4c#32]

/-- S_INIT[2][192..255] (R152). -/
def bfInitS2Part3 : List Word :=
  [0xb90bace1#32, 0xbb8205d0#32, 0x11a86248#32, 0x7574a99e#32, 0xb77f19b6#32, 0xe0a9dc09#32, 0x662d09a1#32, 0xc4324633#32,
   0xe85a1f02#32, 0x09f0be8c#32, 0x4a99a025#32, 0x1d6efe10#32, 0x1ab93d1d#32, 0x0ba5a4df#32, 0xa186f20f#32, 0x2868f169#32,
   0xdcb7da83#32, 0x573906fe#32, 0xa1e2ce9b#32, 0x4fcd7f52#32, 0x50115e01#32, 0xa70683fa#32, 0xa002b5c4#32, 0x0de6d027#32,
   0x9af88c27#32, 0x773f8641#32, 0xc3604c06#32, 0x61a806b5#32, 0xf0177a28#32, 0xc0f586e0#32, 0x006058aa#32, 0x30dc7d62#32,
   0x11e69ed7#32, 0x2338ea63#32, 0x53c2dd94#32, 0xc2c21634#32, 0xbbcbee56#32, 0x90bcb6de#32, 0xebfc7da1#32, 0xce591d76#32,
   0x6f05e409#32, 0x4b7c0188#32, 0x39720a3d#32, 0x7c927c24#32, 0x86e3725f#32, 0x724d9db9#32, 0x1ac15bb4#32, 0xd39eb8fc#32,
   0xed545578#32, 0x08fca5b5#32, 0xd83d7cd3#32, 0x4dad0fc4#32, 0x1e50ef5e#32, 0xb161e6f8#32, 0xa28514d9#32, 0x6c51133c#32,
   0x6fd5c7e7#32, 0x56e14ec4#32, 0x362abfce#32, 0xddc6c837#32, 0xd79a3234#32, 0x92638212#32, 0x670efa8e#32, 0x406000e0#32]

/-- S_INIT[2] = BF_INIT[530..785] (R152). -/
def bfInitS2 : List Word := bfInitS2Part0 ++ bfInitS2Part1 ++ bfInitS2Part2 ++ bfInitS2Part3

/-- S_INIT[3][0..63] (R152). -/
def bfInitS3Part0 : List Word :=
  [0x3a39ce37#32, 0xd3faf5cf#32, 0xabc27737#32, 0x5ac52d1b#32, 0x5cb0679e#32, 0x4fa33742#32, 0xd3822740#32, 0x99bc9bbe#32,
   0xd5118e9d#32, 0xbf0f7315#32, 0xd62d1c7e#32, 0xc700c47b#32, 0xb78c1b6b#32, 0x21a19045#32, 0xb26eb1be#32, 0x6a366eb4#32,
   0x5748ab2f#32, 0xbc946e79#32, 0xc6a376d2#32, 0x6549c2c8#32, 0x530ff8ee#32, 0x468dde7d#32, 0xd5730a1d#32, 0x4cd04dc6#32,
   0x2939bbdb#32, 0xa9ba4650#32, 0xac9526e8#32, 0xbe5ee304#32, 0xa1fad5f0#32, 0x6a2d519a#32, 0x63ef8ce2#32, 0x9a86ee22#32,
   0xc089c2b8#32, 0x43242ef6#32, 0xa51e03aa#32, 0x9cf2d0a4#32, 0x83c061ba#32, 0x9be96a4d#32, 0x8fe51550#32, 0xba645bd6#32,
   0x2826a2f9#32, 0xa73a3ae1#32, 0x4ba99586#32, 0xef5562e9#32, 0xc72fefd3#32, 0xf752f7da#32, 0x3f046f69#32, 0x77fa0a59#32,
   0x80e4a915#32, 0x87b08601#32, 0x9b09e6ad#32, 0x3b3ee593#32, 0xe990fd5a#32, 0x9e34d797#32, 0x2cf0b7d9#32, 0x022b8b51#32,
   0x96d5ac3a#32, 0x017da67d#32, 0xd1cf3ed6#32, 0x7c7d2d28#32, 0x1f9f25cf#32, 0xadf2b89b#32, 0x5ad6b472#32, 0x5a88f54c#32]

/-- S_INIT[3][64..127] (R152). -/
def bfInitS3Part1 : List Word :=
  [0xe029ac71#32, 0xe019a5e6#32, 0x47b0acfd#32, 0xed93fa9b#32, 0xe8d3c48d#32, 0x283b57cc#32, 0xf8d56629#32, 0x79132e28#32,
   0x785f0191#32, 0xed756055#32, 0xf7960e44#32, 0xe3d35e8c#32, 0x15056dd4#32, 0x88f46dba#32, 0x03a16125#32, 0x0564f0bd#32,
   0xc3eb9e15#32, 0x3c9057a2#32, 0x97271aec#32, 0xa93a072a#32, 0x1b3f6d9b#32, 0x1e6321f5#32, 0xf59c66fb#32, 0x26dcf319#32,
   0x7533d928#32, 0xb155fdf5#32, 0x03563482#32, 0x8aba3cbb#32, 0x28517711#32, 0xc20ad9f8#32, 0xabcc5167#32, 0xccad925f#32,
   0x4de81751#32, 0x3830dc8e#32, 0x379d5862#32, 0x9320f991#32, 0xea7a90c2#32, 0xfb3e7bce#32, 0x5121ce64#32, 0x774fbe32#32,
   0xa8b6e37e#32, 0xc3293d46#32, 0x48de5369#32, 0x6413e680#32, 0xa2ae0810#32, 0xdd6db224#32, 0x69852dfd#32, 0x09072166#32,
   0xb39a460a#32, 0x6445c0dd#32, 0x586cdecf#32, 0x1c20c8ae#32, 0x5bbef7dd#32, 0x1b588d40#32, 0xccd2017f#32, 0x6bb4e3bb#32,
   0xdda26a7e#32, 0x3a59ff45#32, 0x3e350a44#32, 0xbcb4cdd5#32, 0x72eacea8#32, 0xfa6484bb#32, 0x8d6612ae#32, 0xbf3c6f47#32]

/-- S_INIT[3][128..191] (R152). -/
def bfInitS3Part2 : List Word :=
  [0xd29be463#32, 0x542f5d9e#32, 0xaec2771b#32, 0xf64e6370#32, 0x740e0d8d#32, 0xe75b1357#32, 0xf8721671#32, 0xaf537d5d#32,
   0x4040cb08#32, 0x4eb4e2cc#32, 0x34d2466a#32, 0x0115af84#32, 0xe1b00428#32, 0x95983a1d#32, 0x06b89fb4#32, 0xce6ea048#32,
   0x6f3f3b82#32, 0x3520ab82#32, 0x011a1d4b#32, 0x277227f8#32, 0x611560b1#32, 0xe7933fdc#32, 0xbb3a792b#32, 0x344525bd#32,
   0xa08839e1#32, 0x51ce794b#32, 0x2f32c9b7#32, 0xa01fbac9#32, 0xe01cc87e#32, 0xbcc7d1f6#32, 0xcf0111c3#32, 0xa1e8aac7#32,
   0x1a908749#32, 0xd44fbd9a#32, 0xd0dadecb#32, 0xd50ada38#32, 0x0339c32a#32, 0xc6913667#32, 0x8df9317c#32, 0xe0b12b4f#32,
   0xf79e59b7#32, 0x43f5bb3a#32, 0xf2d519ff#32, 0x27d9459c#32, 0xbf97222c#32, 0x15e6fc2a#32, 0x0f91fc71#32, 0x9b941525#32,
   0xfae59361#32, 0xceb69ceb#32, 0xc2a86459#32, 0x12baa8d1#32, 0xb6c1075e#32, 0xe3056a0c#32, 0x10d25065#32, 0xcb03a442#32,
   0xe0ec6e0e#32, 0x1698db3b#32, 0x4c98a0be#32, 0x3278e964#32, 0x9f1f9532#32, 0xe0d392df#32, 0xd3a0342b#32, 0x8971f21e#32]

/-- S_INIT[3][192..255] (R152). -/
def bfInitS3Part3 : List Word :=
  [0x1b0a7441#32, 0x4ba3348c#32, 0xc5be7120#32, 0xc37632d8#32, 0xdf359f8d#32, 0x9b992f2e#32, 0xe60b6f47#32, 0x0fe3f11d#32,
   0xe54cda54#32, 0x1edad891#32, 0xce6279cf#32, 0xcd3e7e6f#32, 0x1618b166#32, 0xfd2c1d05#32, 0x848fd2c5#32, 0xf6fb2299#32,
   0xf523f357#32, 0xa6327623#32, 0x93a83531#32, 0x56cccd02#32, 0xacf08162#32, 0x5a75ebb5#32, 0x6e163697#32, 0x88d273cc#32,
   0xde966292#32, 0x81b949d0#32, 0x4c50901b#32, 0x71c65614#32, 0xe6c6c7bd#32, 0x327a140a#32, 0x45e1d006#32, 0xc3f27b9a#32,
   0xc9aa53fd#32, 0x62a80f00#32, 0xbb25bfe2#32, 0x35bdd2f6#32, 0x71126905#32, 0xb2040222#32, 0xb6cbcf7c#32, 0xcd769c2b#32,
   0x53113ec0#32, 0x1640e3d3#32, 0x38abbd60#32, 0x2547adf0#32, 0xba38209c#32, 0xf746ce76#32, 0x77afa1c5#32, 0x20756060#32,
   0x85cbfe4e#32, 0x8ae88dd8#32, 0x7aaaf9b0#32, 0x4cf9aa7e#32, 0x1948c25c#32, 0x02fb8a8c#32, 0x01c36ae4#32, 0xd6ebe1f9#32,
   0x90d4f869#32, 0xa65cdea0#32, 0x3f09252d#32, 0xc208e69f#32, 0xb74e6132#32, 0xce77e25b#32, 0x578fdfe3#32, 0x3ac372e6#32]

/-- S_INIT[3] = BF_INIT[786..1041] (R152). -/
def bfInitS3 : List Word := bfInitS3Part0 ++ bfInitS3Part1 ++ bfInitS3Part2 ++ bfInitS3Part3

/-- BF_INIT[0..1041], the initial P-array and S-boxes (R150). -/
def bfInit : List Word := bfInitP ++ bfInitS0 ++ bfInitS1 ++ bfInitS2 ++ bfInitS3

/-- `P_INIT[i] = BF_INIT[i]` (41_blowfish.md R110). -/
def pInit : Vector Word 18 := ⟨bfInitP.toArray, by decide +kernel⟩

/-- `S_INIT[b][i] = BF_INIT[18 + 256*b + i]` (41_blowfish.md R110). -/
def sInit : Vector (Vector Word 256) 4 :=
  #v[⟨bfInitS0.toArray, by decide +kernel⟩, ⟨bfInitS1.toArray, by decide +kernel⟩, ⟨bfInitS2.toArray, by decide +kernel⟩,
     ⟨bfInitS3.toArray, by decide +kernel⟩]

end Sys2Proof.Machine
end

