-- ==== Sys2Proof/Machine/Blowfish.lean ====
section
/-! DEFINITION. The Blowfish engine's pure functions (41_blowfish.md R110 to R127). -/

namespace Sys2Proof.Machine

/-- The round function F: "a is the most significant byte"; both additions discard their carry (41_blowfish.md R111). -/
def bfF (s : Vector (Vector Word 256) 4) (x : Word) : Word :=
  let a := (byteOf 3 x).toNat
  let b := (byteOf 2 x).toNat
  let c := (byteOf 1 x).toNat
  let d := (byteOf 0 x).toNat
  ((look s[0] a + look s[1] b) ^^^ look s[2] c) + look s[3] d

/-- One round with round key `k`, the swap included (41_blowfish.md R112). -/
def bfRound (s : Vector (Vector Word 256) 4) (x : Word × Word) (k : Word) : Word × Word :=
  let l := x.1 ^^^ k
  (x.2 ^^^ bfF s l, l)

/-- BF_EncryptWords: 16 rounds with P[0..15], then `(xR ^ P[17], xL ^ P[16])` in the names as they stand after the last
swap (41_blowfish.md R112; 90_conflicts.md C1). -/
def bfEncryptWords (k : BfSchedule) (xl xr : Word) : Word × Word :=
  let y := (k.p.toList.take 16).foldl (bfRound k.s) (xl, xr)
  (y.2 ^^^ k.p[17], y.1 ^^^ k.p[16])

/-- BF_DecryptWords: P traversed in reverse, P[17] down to P[2], then `(xR ^ P[0], xL ^ P[1])` (41_blowfish.md R113). -/
def bfDecryptWords (k : BfSchedule) (xl xr : Word) : Word × Word :=
  let y := (k.p.toList.drop 2).reverse.foldl (bfRound k.s) (xl, xr)
  (y.2 ^^^ k.p[0], y.1 ^^^ k.p[1])

/-- EncBlock_BF on the words of an 8-byte block (41_blowfish.md R120). -/
def bfEncBlock (k : BfSchedule) (b : List Byte) : List Byte :=
  let y := bfEncryptWords k (wordLe b 0) (wordLe b 1)
  leBytes y.1 ++ leBytes y.2

/-- DecBlock_BF (41_blowfish.md R121). -/
def bfDecBlock (k : BfSchedule) (b : List Byte) : List Byte :=
  let y := bfDecryptWords k (wordLe b 0) (wordLe b 1)
  leBytes y.1 ++ leBytes y.2

/-- `KeyWord(K, i)`: big-endian and cyclic, one byte at a time (41_blowfish.md R124). -/
def bfKeyWord (key : List Byte) (i : Nat) : Word :=
  let n := key.length
  be32 (byteAt key (4 * i % n)) (byteAt key ((4 * i + 1) % n)) (byteAt key ((4 * i + 2) % n))
    (byteAt key ((4 * i + 3) % n))

/-- The schedule after the key XOR: `P[i] = P_INIT[i] ^ KeyWord(K, i)` and S = S_INIT (41_blowfish.md R125). -/
def bfKeyXor (key : List Byte) : BfSchedule :=
  { p := Vector.ofFn fun i => pInit[i] ^^^ bfKeyWord key i, s := sInit }

/-- The key schedule while it is built: the schedule so far, and the last encryption's output (41_blowfish.md R125). -/
structure BfBuild where
  sched : BfSchedule
  l : Word
  r : Word

/-- Encrypt the last output with the schedule so far and store it as P[2i], P[2i+1] (41_blowfish.md R125). -/
def bfFillP (b : BfBuild) (i : Nat) : BfBuild :=
  let y := bfEncryptWords b.sched b.l b.r
  { sched := { b.sched with p := (b.sched.p.setIfInBounds (2 * i) y.1).setIfInBounds (2 * i + 1) y.2 }
    l := y.1
    r := y.2 }

/-- Encrypt the last output with the schedule so far and store it as S[box][2i], S[box][2i+1] (41_blowfish.md R125). -/
def bfFillS (box : Fin 4) (b : BfBuild) (i : Nat) : BfBuild :=
  let y := bfEncryptWords b.sched b.l b.r
  let t := ((b.sched.s.get box).setIfInBounds (2 * i) y.1).setIfInBounds (2 * i + 1) y.2
  { sched := { b.sched with s := b.sched.s.set box t }, l := y.1, r := y.2 }

/-- BF_KeySchedule: 9 encryptions fill P, then 128 fill each S-box, each taking the previous output as its input
(41_blowfish.md R125). -/
def bfKeySchedule (key : List Byte) : BfSchedule :=
  let b0 : BfBuild := { sched := bfKeyXor key, l := 0#32, r := 0#32 }
  let bP := (List.range 9).foldl bfFillP b0
  let bS := [0, 1, 2, 3].foldl (fun b box => (List.range 128).foldl (bfFillS box) b) bP
  bS.sched

end Sys2Proof.Machine
end

