-- ==== Sys2Proof/Machine/Gost.lean ====
section
/-! DEFINITION. The GOST 28147-89 engine's pure functions (43_gost.md R160 to R168). -/

namespace Sys2Proof.Machine

/-- A 4-bit S-box: entry `kN[v]` for v = 0..15 (43_gost.md R160). -/
abbrev GostBox := Vector (BitVec 4) 16

/-- k8 of 43_gost.md R160 (from general knowledge, confirmed by the source's vectors; log 15). -/
def gostK8 : GostBox := #v[14, 4, 13, 1, 2, 15, 11, 8, 3, 10, 6, 12, 5, 9, 0, 7]

/-- k7 of 43_gost.md R160. -/
def gostK7 : GostBox := #v[15, 1, 8, 14, 6, 11, 3, 4, 9, 7, 2, 13, 12, 0, 5, 10]

/-- k6 of 43_gost.md R160. -/
def gostK6 : GostBox := #v[10, 0, 9, 14, 6, 3, 15, 5, 1, 13, 12, 7, 11, 4, 2, 8]

/-- k5 of 43_gost.md R160. -/
def gostK5 : GostBox := #v[7, 13, 14, 3, 0, 6, 9, 10, 1, 2, 8, 5, 11, 12, 4, 15]

/-- k4 of 43_gost.md R160. -/
def gostK4 : GostBox := #v[2, 12, 4, 1, 7, 10, 11, 6, 8, 5, 3, 15, 13, 0, 14, 9]

/-- k3 of 43_gost.md R160. -/
def gostK3 : GostBox := #v[12, 1, 10, 15, 9, 2, 6, 8, 0, 13, 3, 4, 14, 7, 5, 11]

/-- k2 of 43_gost.md R160. -/
def gostK2 : GostBox := #v[4, 11, 2, 14, 15, 0, 8, 13, 3, 12, 9, 7, 5, 10, 6, 1]

/-- k1 of 43_gost.md R160. -/
def gostK1 : GostBox := #v[13, 2, 8, 4, 6, 15, 11, 1, 10, 9, 3, 14, 5, 0, 12, 7]

/-- A packed table: `T[i] = (hi[p1] << 4) | lo[p2]` with `p1 = i >> 4`, which is `i / 16`, and
`p2 = i & 0xF`, which is `i % 16` (43_gost.md R161). -/
def gostPack (hi lo : GostBox) : Vector Byte 256 :=
  ⟨((List.range 256).map fun i => (look hi (i / 16)).setWidth 8 <<< 4 ||| (look lo (i % 16)).setWidth 8).toArray, by simp⟩

/-- The round function: look up the four bytes, re-pack them, rotate left by 11 (43_gost.md R162). -/
def gostF (k : GostSchedule) (x : Word) : Word :=
  let y := (look k.t87 (byteOf 3 x).toNat).setWidth 32 <<< 24 ||| (look k.t65 (byteOf 2 x).toNat).setWidth 32 <<< 16
    ||| (look k.t43 (byteOf 1 x).toNat).setWidth 32 <<< 8 ||| (look k.t21 (byteOf 0 x).toNat).setWidth 32
  rotl32 y 11

/-- ENC_ORDER (43_gost.md R163): k[0..7] three times forward, then k[7..0] once. -/
def gostEncOrder : List Nat :=
  [0, 1, 2, 3, 4, 5, 6, 7, 0, 1, 2, 3, 4, 5, 6, 7, 0, 1, 2, 3, 4, 5, 6, 7, 7, 6, 5, 4, 3, 2, 1, 0]

/-- DEC_ORDER (43_gost.md R163): k[0..7] once forward, then k[7..0] three times. -/
def gostDecOrder : List Nat :=
  [0, 1, 2, 3, 4, 5, 6, 7, 7, 6, 5, 4, 3, 2, 1, 0, 7, 6, 5, 4, 3, 2, 1, 0, 7, 6, 5, 4, 3, 2, 1, 0]

/-- Two rounds to each step, "the two halves change roles instead of being swapped", until the order sequence is used
up (43_gost.md R164). The sequences of R163 have 32 entries; a lone last entry would be no round. -/
def gostRounds (k : GostSchedule) : List Nat → Word → Word → Word × Word
  | i :: j :: ord, n1, n2 =>
    let n2' := n2 ^^^ gostF k (n1 + look k.k i)
    let n1' := n1 ^^^ gostF k (n2' + look k.k j)
    gostRounds k ord n1' n2'
  | _, n1, n2 => (n1, n2)

/-- GOST_CryptWords: the 32 rounds of an order sequence; returns `(n2, n1)` (43_gost.md R164). -/
def gostCryptWords (k : GostSchedule) (ord : List Nat) (n1 n2 : Word) : Word × Word :=
  let y := gostRounds k ord n1 n2
  (y.2, y.1)

/-- GOST_EncryptWords (43_gost.md R164). -/
def gostEncryptWords (k : GostSchedule) (n1 n2 : Word) : Word × Word := gostCryptWords k gostEncOrder n1 n2

/-- GOST_DecryptWords (43_gost.md R164). -/
def gostDecryptWords (k : GostSchedule) (n1 n2 : Word) : Word × Word := gostCryptWords k gostDecOrder n1 n2

/-- GOST_KeySchedule: eight little-endian key words and the four packed tables (43_gost.md R165, R161). -/
def gostKeySchedule (key : List Byte) : GostSchedule :=
  { k := Vector.ofFn fun j => wordLe key j
    t87 := gostPack gostK8 gostK7
    t65 := gostPack gostK6 gostK5
    t43 := gostPack gostK4 gostK3
    t21 := gostPack gostK2 gostK1 }

/-- EncBlock_GOST (43_gost.md R168). -/
def gostEncBlock (k : GostSchedule) (b : List Byte) : List Byte :=
  let o := gostEncryptWords k (wordLe b 0) (wordLe b 1)
  leBytes o.1 ++ leBytes o.2

/-- DecBlock_GOST (43_gost.md R168). -/
def gostDecBlock (k : GostSchedule) (b : List Byte) : List Byte :=
  let o := gostDecryptWords k (wordLe b 0) (wordLe b 1)
  leBytes o.1 ++ leBytes o.2

end Sys2Proof.Machine
end

