-- ==== Sys2Proof/Machine/Flags.lean ====
section
/-! DEFINITION. The STATUS word: the core's only flags are STATUS.CODE and the three key-slot states (10_state.md R25,
R37). -/

namespace Sys2Proof.Machine

/-- The number of a status code (60_exceptions.md R300). -/
def StatusCode.number : StatusCode → Nat
  | .ok => 0
  | .empty => 1
  | .keyLength => 2
  | .noKey => 3
  | .illegal => 4
  | .length => 5
  | .overlap => 6
  | .bus => 7

/-- "OK and EMPTY are successes. ... The other six codes are errors" (60_exceptions.md R301). -/
def StatusCode.isError : StatusCode → Bool
  | .ok => false
  | .empty => false
  | .keyLength | .noKey | .illegal | .length | .overlap | .bus => true

/-- The encoding of a key-slot state in STATUS (10_state.md R25). -/
def KeyState.number : KeyState → Nat
  | .empty => 0
  | .valid => 1
  | .failed => 2

/-- STATUS: CODE in bits 3:0, BF_KS in 9:8, GOST_KS in 11:10, TW_KS in 13:12; every other bit reads 0
(10_state.md R25). -/
def statusWord (s : State) : Word :=
  BitVec.ofNat 32 s.code.number ||| BitVec.ofNat 32 s.bf.ks.number <<< 8
    ||| BitVec.ofNat 32 s.gost.ks.number <<< 10 ||| BitVec.ofNat 32 s.tw.ks.number <<< 12

end Sys2Proof.Machine
end

