-- ==== Sys2Proof/Machine/Ops.lean ====
section
/-! DEFINITION. The shared operations: bytes and ranges of memory (20_memory.md R50 to R60), the host registers
(10_state.md R23 to R28), the end of a command (60_exceptions.md R302), the entropy draw (40_byte_utilities.md R97) and
the reset event (70_reset_and_hazards.md R340). -/

namespace Sys2Proof.Machine

/-- What a byte of memory that nothing has written reads as (DESIGN CHOICE, log 3, unsafe). -/
def Memory.unlisted : Byte := 0#8

/-- `Mem[a]` (20_memory.md R50). -/
def Memory.read : Memory → Nat → Byte
  | [], _ => Memory.unlisted
  | (k, b) :: m, a => if a = k then b else if a < k then Memory.unlisted else Memory.read m a

/-- `Mem[a] <- b`, in canonical form: a byte equal to what an unlisted address reads as is not listed. -/
def Memory.write : Memory → Nat → Byte → Memory
  | [], a, b => if b = Memory.unlisted then [] else [(a, b)]
  | (k, c) :: m, a, b =>
    if a < k then if b = Memory.unlisted then (k, c) :: m else (a, b) :: (k, c) :: m
    else if a = k then if b = Memory.unlisted then m else (a, b) :: m
    else (k, c) :: Memory.write m a b

/-- The canonical form: addresses strictly rise, and no entry equals what an unlisted address reads as. -/
def Memory.wf (m : Memory) : Bool :=
  decide (m.Pairwise fun x y => x.1 < y.1) && m.all fun c => c.2 != Memory.unlisted

/-- `[Mem[a], Mem[a+1], ..., Mem[a+n-1]]` (20_memory.md R55). -/
def Memory.readBytes (m : Memory) (a : Nat) : Nat → List Byte
  | 0 => []
  | n + 1 => m.read a :: m.readBytes (a + 1) n

/-- `Mem[a+i] <- B[i]` for `0 <= i < |B|` (20_memory.md R56). -/
def Memory.writeBytes (m : Memory) (a : Nat) : List Byte → Memory
  | [] => m
  | b :: bs => (m.write a b).writeBytes (a + 1) bs

/-- `Range(a, n) ∩ Range(b, m) != ∅` (20_memory.md R51, R60). -/
def overlaps (a n b m : Nat) : Bool :=
  decide (0 < n ∧ 0 < m ∧ a < b + m ∧ b < a + n)

/-- `MEM_ADMIT(a)`: the address is in the address space and in none of the ranges the platform leaves out
(20_memory.md R52; log 2). -/
def memAdmit (s : State) (a : Nat) : Bool :=
  decide (a < Config.addrSpace) && s.holes.all fun h => !overlaps h.base h.size a 1

/-- `RangeOK(a, n)` (20_memory.md R53): empty, or without wrap-around and admitted throughout. -/
def rangeOk (s : State) (a n : Nat) : Bool :=
  n == 0 || (decide (a + n ≤ Config.addrSpace) && s.holes.all fun h => !overlaps h.base h.size a n)

/-- `MemRead(addr, n)` (20_memory.md R55). -/
def memRead (s : State) (addr : Word) (n : Nat) : List Byte := s.mem.readBytes addr.toNat n

/-- `MemWrite(addr, |B|, B)` (20_memory.md R56). -/
def memWrite (s : State) (addr : Word) (b : List Byte) : State :=
  { s with mem := s.mem.writeBytes addr.toNat b }

/-- `finish(CODE, outlen)` (00_scope.md R11): the end of a command, which also joins the event history
(60_exceptions.md R306). -/
def State.finish (s : State) (c : StatusCode) (outlen : Nat) : State :=
  { s with code := c, outlen := BitVec.ofNat 32 outlen, history := c :: s.history }

/-- `raise Status(c)`: CODE is c and OUTLEN is 0, and nothing else changes (60_exceptions.md R302). There is no trap:
nothing is saved, no mode changes and no control is transferred (R305), and no return exists (R306). -/
def State.raise (s : State) (c : StatusCode) : State := s.finish c 0

/-- `Slot(E).ks` (10_state.md R30). -/
def State.ks (s : State) : Engine → KeyState
  | .bf => s.bf.ks
  | .gost => s.gost.ks
  | .tw => s.tw.ks

/-- `Wipe(Slot(E))`, then `Slot(E).ks <- k`: the final value of every wiped word and byte is 0
(40_byte_utilities.md R95; log 12). -/
def State.wipeSlot (s : State) (k : KeyState) : Engine → State
  | .bf => { s with bf := ⟨k, BfSchedule.zero⟩ }
  | .gost => { s with gost := ⟨k, GostSchedule.zero⟩ }
  | .tw => { s with tw := ⟨k, TwSchedule.zero⟩ }

/-- The bytes `Draw(n)` returns: a free value (40_byte_utilities.md R97; log 6). -/
def drawnBytes (s : State) (n : Nat) : List Byte :=
  (List.range n).map fun i => Config.entropy (s.drawn + i)

/-- The state after `Draw(n)`: the next draw is a fresh one (40_byte_utilities.md R97). -/
def State.afterDraw (s : State) (n : Nat) : State := { s with drawn := s.drawn + n }

/-- A host read of the register at an offset inside the window: 0x04 is STATUS, 0x08 SRC, 0x0C LEN,
0x10 DST, 0x14 IVA and 0x18 OUTLEN; CMD (0x00) and the reserved offsets read 0 (10_state.md R23, R27, R28). -/
def readReg (s : State) (offset : Nat) : Word :=
  if offset = 0x04 then statusWord s
  else if offset = 0x08 then s.src
  else if offset = 0x0C then s.len
  else if offset = 0x10 then s.dst
  else if offset = 0x14 then s.iva
  else if offset = 0x18 then s.outlen
  else 0#32

/-- A host write of a register other than CMD: 0x08 is SRC, 0x0C LEN, 0x10 DST and 0x14 IVA; STATUS, OUTLEN and the
reserved offsets ignore it (10_state.md R23 to R28). -/
def writeReg (s : State) (offset : Nat) (v : Word) : State :=
  if offset = 0x08 then { s with src := v }
  else if offset = 0x0C then { s with len := v }
  else if offset = 0x10 then { s with dst := v }
  else if offset = 0x14 then { s with iva := v }
  else s

/-- Blowfish storage after the `k`-th reset event: unspecified (10_state.md R38), so free values (log 5). -/
def resetBf (k : Nat) : BfSchedule :=
  { p := Vector.ofFn fun i => Config.resetWord k i
    s := Vector.ofFn fun b => Vector.ofFn fun i => Config.resetWord k (18 + 256 * b + i) }

/-- GOST storage after the `k`-th reset event (log 5). -/
def resetGost (k : Nat) : GostSchedule :=
  { k := Vector.ofFn fun i => Config.resetWord k (1042 + i)
    t87 := Vector.ofFn fun i => Config.resetByte k i
    t65 := Vector.ofFn fun i => Config.resetByte k (256 + i)
    t43 := Vector.ofFn fun i => Config.resetByte k (512 + i)
    t21 := Vector.ofFn fun i => Config.resetByte k (768 + i) }

/-- 3-Way storage after the `k`-th reset event (log 5). -/
def resetTw (k : Nat) : TwSchedule :=
  { k := ⟨Config.resetWord k 1050, Config.resetWord k 1051, Config.resetWord k 1052⟩
    ki := ⟨Config.resetWord k 1053, Config.resetWord k 1054, Config.resetWord k 1055⟩ }

/-- The reset event: every register takes its reset value, every slot is EMPTY, slot storage is unspecified and host
memory is unchanged (70_reset_and_hazards.md R340, 10_state.md R38; log 5). -/
def State.afterReset (s : State) : State :=
  { s with
    src := 0#32
    len := 0#32
    dst := 0#32
    iva := 0#32
    outlen := 0#32
    code := .ok
    bf := ⟨.empty, resetBf s.resets⟩
    gost := ⟨.empty, resetGost s.resets⟩
    tw := ⟨.empty, resetTw s.resets⟩
    resets := s.resets + 1 }

end Sys2Proof.Machine
end

