-- ==== Sys2Proof/Machine/ThreeWay.lean ====
section
/-! DEFINITION. The 3-Way engine's pure functions over a triple of words (44_threeway.md R200 to R214). -/

namespace Sys2Proof.Machine

/-- γ, the non-linear layer (44_threeway.md R201). -/
def twGamma (a : Triple) : Triple :=
  { a0 := ~~~a.a0 ^^^ (~~~a.a1 &&& a.a2)
    a1 := ~~~a.a1 ^^^ (~~~a.a2 &&& a.a0)
    a2 := ~~~a.a2 ^^^ (~~~a.a0 &&& a.a1) }

/-- `t` iterations of μ's loop on one word: shift the bits of `a` out at the bottom and into `b` (44_threeway.md R202). -/
def twMuLoop : Nat → Word → Word → Word
  | 0, b, _ => b
  | t + 1, b, a => twMuLoop t (b <<< 1 ||| (a &&& 1#32)) (a >>> 1)

/-- μ, the bit reversal, as the rule's loop of 32 iterations: b0 takes the bits of a2, b1 those of a1 and b2 those of a0
(44_threeway.md R202; 90_conflicts.md C3). -/
def twMu (a : Triple) : Triple :=
  { a0 := twMuLoop 32 0#32 a.a2
    a1 := twMuLoop 32 0#32 a.a1
    a2 := twMuLoop 32 0#32 a.a0 }

/-- The expression for b0 of 44_threeway.md R203; "b1 and b2 are b0 with the word indices rotated by one and by two". -/
def twThetaWord (x y z : Word) : Word :=
  x ^^^ (x >>> 16) ^^^ (y <<< 16) ^^^ (y >>> 16) ^^^ (z <<< 16) ^^^ (y >>> 24) ^^^ (z <<< 8)
    ^^^ (z >>> 8) ^^^ (x <<< 24) ^^^ (z >>> 16) ^^^ (x <<< 16) ^^^ (z >>> 24) ^^^ (x <<< 8)

/-- θ, the linear diffusion layer (44_threeway.md R203; from general knowledge, confirmed by the source's vectors;
log 15). -/
def twTheta (a : Triple) : Triple :=
  { a0 := twThetaWord a.a0 a.a1 a.a2
    a1 := twThetaWord a.a1 a.a2 a.a0
    a2 := twThetaWord a.a2 a.a0 a.a1 }

/-- π₁ (44_threeway.md R204). -/
def twPi1 (a : Triple) : Triple := { a0 := rotl32 a.a0 22, a1 := a.a1, a2 := rotl32 a.a2 1 }

/-- π₂ (44_threeway.md R204). -/
def twPi2 (a : Triple) : Triple := { a0 := rotl32 a.a0 1, a1 := a.a1, a2 := rotl32 a.a2 22 }

/-- ρ, the round transform, θ first (44_threeway.md R205). -/
def twRho (a : Triple) : Triple := twPi2 (twGamma (twPi1 (twTheta a)))

/-- `n` words of the round-constant generator from `strt` (44_threeway.md R206). -/
def twRcon : Nat → Word → List Word
  | 0, _ => []
  | n + 1, strt =>
    let next := strt <<< 1
    strt :: twRcon n (if next &&& 0x10000#32 ≠ 0#32 then next ^^^ 0x11011#32 else next)

/-- ERCON = RCON(0x0b0b), 12 words (44_threeway.md R206; log 15). -/
def twErcon : List Word := twRcon 12 0x0b0b#32

/-- DRCON = RCON(0xb1b1), 12 words (44_threeway.md R206; log 15). -/
def twDrcon : List Word := twRcon 12 0xb1b1#32

/-- AddRK: key addition with round constant `c`, into words 0 and 2 only (44_threeway.md R207). -/
def twAddRK (k a : Triple) (c : Word) : Triple :=
  { a0 := a.a0 ^^^ k.a0 ^^^ (c <<< 16), a1 := a.a1 ^^^ k.a1, a2 := a.a2 ^^^ k.a2 ^^^ c }

/-- The rounds of R208 and R209 over a table of 12 constants: `ρ(AddRK(a, k, c))` for the first 11, then AddRK with
the last. -/
def twRounds (k : Triple) (rcon : List Word) (a : Triple) : Triple :=
  twAddRK k ((rcon.take 11).foldl (fun x c => twRho (twAddRK k x c)) a) (rcon.getD 11 0#32)

/-- TW_EncryptWords (44_threeway.md R208). -/
def twEncryptWords (k a : Triple) : Triple := twTheta (twRounds k twErcon a)

/-- TW_DecryptWords: μ, the rounds with KI and DRCON, θ, μ (44_threeway.md R209). -/
def twDecryptWords (ki a : Triple) : Triple := twMu (twTheta (twRounds ki twDrcon (twMu a)))

/-- The little-endian byte view of a 12-byte string (44_threeway.md R210). -/
def twTriple (b : List Byte) : Triple := { a0 := wordLe b 0, a1 := wordLe b 1, a2 := wordLe b 2 }

/-- `bytes_le` of a triple (00_scope.md R10; 44_threeway.md R210). -/
def twBytes (a : Triple) : List Byte := leBytes a.a0 ++ leBytes a.a1 ++ leBytes a.a2

/-- TW_KeySchedule: K, and KI = μ(θ(K)) (44_threeway.md R211). -/
def twKeySchedule (key : List Byte) : TwSchedule :=
  { k := twTriple key, ki := twMu (twTheta (twTriple key)) }

/-- EncBlock_TW (44_threeway.md R214). -/
def twEncBlock (k : TwSchedule) (b : List Byte) : List Byte := twBytes (twEncryptWords k.k (twTriple b))

/-- DecBlock_TW, with KI (44_threeway.md R214). -/
def twDecBlock (k : TwSchedule) (b : List Byte) : List Byte := twBytes (twDecryptWords k.ki (twTriple b))

end Sys2Proof.Machine
end

