-- ==== Sys2Proof/Machine/Modes.lean ====
section
/-! DEFINITION. The bodies that several commands share, parameterised by the engine E (00_scope.md R12): the block
commands (41_blowfish.md R132), the ECB controller (45_mode_ecb.md R250 to R252), the CBC controller (46_mode_cbc.md R270
to R273) and the two ways a key slot is emptied. Each body is its checks, which answer the first status code that ends the
command early in the order of 60_exceptions.md R303, and then its effect: every check precedes every effect
(20_memory.md R58). -/

namespace Sys2Proof.Machine

/-- EncBlock_E with `Slot(E)` (00_scope.md R12). -/
def encBlock (e : Engine) (s : State) (b : List Byte) : List Byte :=
  match e with
  | .bf => bfEncBlock s.bf.sched b
  | .gost => gostEncBlock s.gost.sched b
  | .tw => twEncBlock s.tw.sched b

/-- DecBlock_E with `Slot(E)` (00_scope.md R12). -/
def decBlock (e : Engine) (s : State) (b : List Byte) : List Byte :=
  match e with
  | .bf => bfDecBlock s.bf.sched b
  | .gost => gostDecBlock s.gost.sched b
  | .tw => twDecBlock s.tw.sched b

/-- The checks of ENCB and DECB: NO_KEY, BUS, OVERLAP; SRC = DST is permitted (41_blowfish.md R132; 20_memory.md R60). -/
def blockChecks (e : Engine) (s : State) : Option StatusCode :=
  let bs := blockLen e
  if s.ks e ≠ .valid then some .noKey
  else if !rangeOk s s.src.toNat bs || !rangeOk s s.dst.toNat bs then some .bus
  else if s.src ≠ s.dst ∧ overlaps s.src.toNat bs s.dst.toNat bs then some .overlap
  else none

/-- The body of ENG.ENCB (41_blowfish.md R132). -/
def blockEncrypt (e : Engine) (s : State) : State :=
  match blockChecks e s with
  | some c => s.raise c
  | none => (memWrite s s.dst (encBlock e s (memRead s s.src (blockLen e)))).finish .ok (blockLen e)

/-- The body of ENG.DECB (41_blowfish.md R133). -/
def blockDecrypt (e : Engine) (s : State) : State :=
  match blockChecks e s with
  | some c => s.raise c
  | none => (memWrite s s.dst (decBlock e s (memRead s s.src (blockLen e)))).finish .ok (blockLen e)

/-- The padded length `p` exceeds 32 bits: "no 32-bit DST can hold that many bytes, so the result is BUS"
(45_mode_ecb.md R255; 95_test_vectors.md V-UTIL-1; log 11). -/
def tooLong (p : Nat) : Bool := decide (Config.addrSpace ≤ p)

/-- The checks of ECBE: NO_KEY, EMPTY, BUS, OVERLAP (45_mode_ecb.md R251, R255). -/
def ecbeChecks (e : Engine) (s : State) : Option StatusCode :=
  let n := s.len.toNat
  let p := paddedLen n (blockLen e)
  if s.ks e ≠ .valid then some .noKey
  else if s.src = Config.nullAddr ∨ n = 0 then some .empty
  else if !rangeOk s s.src.toNat n || !rangeOk s s.dst.toNat p || tooLong p then some .bus
  else if overlaps s.dst.toNat p s.src.toNat n then some .overlap
  else none

/-- Every block on its own: `C[0] ++ C[1] ++ ...` (45_mode_ecb.md R251, R253). -/
def ecbMap (f : List Byte → List Byte) (bs : Nat) (w : List Byte) : List Byte := (toBlocks bs w).flatMap f

/-- ModeECBE(E) (45_mode_ecb.md R251). -/
def modeEcbe (e : Engine) (s : State) : State :=
  match ecbeChecks e s with
  | some c => s.raise c
  | none =>
    let bs := blockLen e
    let w := pad (memRead s s.src s.len.toNat) bs
    (memWrite s s.dst (ecbMap (encBlock e s) bs w)).finish .ok (paddedLen s.len.toNat bs)

/-- The checks of ECBD: NO_KEY, EMPTY, LENGTH, BUS, OVERLAP (45_mode_ecb.md R252). -/
def ecbdChecks (e : Engine) (s : State) : Option StatusCode :=
  let n := s.len.toNat
  if s.ks e ≠ .valid then some .noKey
  else if s.src = Config.nullAddr ∨ n = 0 then some .empty
  else if n % blockLen e ≠ 0 then some .length
  else if !rangeOk s s.src.toNat n || !rangeOk s s.dst.toNat n then some .bus
  else if overlaps s.dst.toNat n s.src.toNat n then some .overlap
  else none

/-- ModeECBD(E): all n bytes are written, padding included; only OUTLEN is trimmed (45_mode_ecb.md R252). -/
def modeEcbd (e : Engine) (s : State) : State :=
  match ecbdChecks e s with
  | some c => s.raise c
  | none =>
    let n := s.len.toNat
    let out := ecbMap (decBlock e s) (blockLen e) (memRead s s.src n)
    (memWrite s s.dst out).finish .ok (trimLen out n)

/-- `gen <- (reg.IVA = 0)`: the IV is generated (46_mode_cbc.md R271, R272). -/
def ivGenerated (s : State) : Bool := s.iva == Config.nullAddr

/-- The checks of CBCE: NO_KEY, EMPTY, BUS, OVERLAP; the IV range counts when it is read (46_mode_cbc.md R272). -/
def cbceChecks (e : Engine) (s : State) : Option StatusCode :=
  let bs := blockLen e
  let n := s.len.toNat
  let total := paddedLen n bs + bs
  if s.ks e ≠ .valid then some .noKey
  else if s.src = Config.nullAddr ∨ n = 0 then some .empty
  else if !rangeOk s s.src.toNat n || !rangeOk s s.dst.toNat total
      || (!ivGenerated s && !rangeOk s s.iva.toNat bs) then some .bus
  else if overlaps s.dst.toNat total s.src.toNat n
      || (!ivGenerated s && overlaps s.dst.toNat total s.iva.toNat bs) then some .overlap
  else none

/-- The IV of CBCE: drawn when IVA is 0, else read at IVA (46_mode_cbc.md R271). -/
def cbcIv (e : Engine) (s : State) : List Byte :=
  if ivGenerated s then drawnBytes s (blockLen e) else memRead s s.iva (blockLen e)

/-- The CBC encryption loop: `C[i] = E(P[i] ⊕ feedback)`, and C[i] is the next feedback (46_mode_cbc.md R272). -/
def cbcEncrypt (f : List Byte → List Byte) : List Byte → List (List Byte) → List Byte
  | _, [] => []
  | fb, w :: ws =>
    let c := f (xorBytes w fb)
    c ++ cbcEncrypt f c ws

/-- ModeCBCE(E): the IV, then the ciphertext blocks; the draw follows every check (46_mode_cbc.md R271, R272). -/
def modeCbce (e : Engine) (s : State) : State :=
  match cbceChecks e s with
  | some c => s.raise c
  | none =>
    let bs := blockLen e
    let w := pad (memRead s s.src s.len.toNat) bs
    let iv := cbcIv e s
    let out := iv ++ cbcEncrypt (encBlock e s) iv (toBlocks bs w)
    let s' := if ivGenerated s then s.afterDraw bs else s
    (memWrite s' s.dst out).finish .ok (paddedLen s.len.toNat bs + bs)

/-- The checks of CBCD: NO_KEY, EMPTY, LENGTH, BUS, OVERLAP; IVA is not read (46_mode_cbc.md R273, R275). -/
def cbcdChecks (e : Engine) (s : State) : Option StatusCode :=
  let bs := blockLen e
  let n := s.len.toNat
  if s.ks e ≠ .valid then some .noKey
  else if s.src = Config.nullAddr ∨ n = 0 then some .empty
  else if n < bs ∨ n % bs ≠ 0 then some .length
  else if !rangeOk s s.src.toNat n || !rangeOk s s.dst.toNat (n - bs) then some .bus
  else if overlaps s.dst.toNat (n - bs) s.src.toNat n then some .overlap
  else none

/-- The CBC decryption loop: `P[i] = D(C[i]) ⊕ feedback`, and C[i] is the next feedback (46_mode_cbc.md R273). -/
def cbcDecrypt (f : List Byte → List Byte) : List Byte → List (List Byte) → List Byte
  | _, [] => []
  | fb, c :: cs => xorBytes (f c) fb ++ cbcDecrypt f c cs

/-- ModeCBCD(E): the first block is the IV; all m bytes are written, padding included (46_mode_cbc.md R273). -/
def modeCbcd (e : Engine) (s : State) : State :=
  match cbcdChecks e s with
  | some c => s.raise c
  | none =>
    let bs := blockLen e
    let n := s.len.toNat
    let input := memRead s s.src n
    let out := cbcDecrypt (decBlock e s) (input.take bs) (toBlocks bs (input.drop bs))
    (memWrite s s.dst out).finish .ok (trimLen out (n - bs))

/-- The checks of KEYSET with key length n between `lo` and `hi`: KEY_LENGTH, BUS (60_exceptions.md R303). -/
def keysetChecks (lo hi : Nat) (s : State) : Option StatusCode :=
  let n := s.len.toNat
  if n < lo ∨ hi < n then some .keyLength
  else if !rangeOk s s.src.toNat n then some .bus
  else none

/-- A KEYSET: a failed one wipes its slot, sets it FAILED and raises; otherwise `load` writes the new schedule
(41_blowfish.md R130, 43_gost.md R180, 44_threeway.md R230). -/
def keyset (e : Engine) (s : State) (checks : Option StatusCode) (load : State → State) : State :=
  match checks with
  | some c => (s.wipeSlot .failed e).raise c
  | none => (load s).finish .ok 0

/-- Load the Blowfish key at SRC (41_blowfish.md R130). -/
def loadBf (s : State) : State := { s with bf := ⟨.valid, bfKeySchedule (memRead s s.src s.len.toNat)⟩ }

/-- Load the GOST key at SRC (43_gost.md R180). -/
def loadGost (s : State) : State := { s with gost := ⟨.valid, gostKeySchedule (memRead s s.src Config.gostKeyLen)⟩ }

/-- Load the 3-Way key at SRC (44_threeway.md R230). -/
def loadTw (s : State) : State := { s with tw := ⟨.valid, twKeySchedule (memRead s s.src Config.twKeyLen)⟩ }

/-- The body of ENG.WIPE: allowed in every slot state (41_blowfish.md R131). -/
def wipe (e : Engine) (s : State) : State := (s.wipeSlot .empty e).finish .ok 0

end Sys2Proof.Machine
end

