-- ==== Sys2Proof/Machine/BfCommands.lean ====
section
/-! DEFINITION. The Blowfish commands, one meaning each (41_blowfish.md R130 to R137). -/

namespace Sys2Proof.Machine

/-- BF.KEYSET: build the schedule from the key at SRC (41_blowfish.md R130). -/
def execBfKeyset (s : State) : Host.Outcome State Fault Refusal :=
  .next (keyset .bf s (keysetChecks Config.bfKeyMin Config.bfKeyMax s) loadBf)

/-- BF.WIPE: erase the key material (41_blowfish.md R131). -/
def execBfWipe (s : State) : Host.Outcome State Fault Refusal := .next (wipe .bf s)

/-- BF.ENCB: encrypt one block (41_blowfish.md R132). -/
def execBfEncb (s : State) : Host.Outcome State Fault Refusal := .next (blockEncrypt .bf s)

/-- BF.DECB: decrypt one block (41_blowfish.md R133). -/
def execBfDecb (s : State) : Host.Outcome State Fault Refusal := .next (blockDecrypt .bf s)

/-- BF.ECBE: ECB-encrypt LEN bytes with padding (41_blowfish.md R134). -/
def execBfEcbe (s : State) : Host.Outcome State Fault Refusal := .next (modeEcbe .bf s)

/-- BF.ECBD: ECB-decrypt LEN bytes and locate the padding (41_blowfish.md R135). -/
def execBfEcbd (s : State) : Host.Outcome State Fault Refusal := .next (modeEcbd .bf s)

/-- BF.CBCE: CBC-encrypt LEN bytes, the IV as the first output block (41_blowfish.md R136). -/
def execBfCbce (s : State) : Host.Outcome State Fault Refusal := .next (modeCbce .bf s)

/-- BF.CBCD: CBC-decrypt LEN bytes whose first block is the IV (41_blowfish.md R137). -/
def execBfCbcd (s : State) : Host.Outcome State Fault Refusal := .next (modeCbcd .bf s)

end Sys2Proof.Machine
end

