-- ==== Sys2Proof/Machine/GostCommands.lean ====
section
/-! DEFINITION. The GOST commands, one meaning each (43_gost.md R180 to R187). -/

namespace Sys2Proof.Machine

/-- GOST.KEYSET: build the schedule from the key at SRC (43_gost.md R180). -/
def execGostKeyset (s : State) : Host.Outcome State Fault Refusal :=
  .next (keyset .gost s (keysetChecks Config.gostKeyLen Config.gostKeyLen s) loadGost)

/-- GOST.WIPE: erase the key material (43_gost.md R181). -/
def execGostWipe (s : State) : Host.Outcome State Fault Refusal := .next (wipe .gost s)

/-- GOST.ENCB: encrypt one block (43_gost.md R182). -/
def execGostEncb (s : State) : Host.Outcome State Fault Refusal := .next (blockEncrypt .gost s)

/-- GOST.DECB: decrypt one block (43_gost.md R183). -/
def execGostDecb (s : State) : Host.Outcome State Fault Refusal := .next (blockDecrypt .gost s)

/-- GOST.ECBE: ECB-encrypt LEN bytes with padding (43_gost.md R184). -/
def execGostEcbe (s : State) : Host.Outcome State Fault Refusal := .next (modeEcbe .gost s)

/-- GOST.ECBD: ECB-decrypt LEN bytes and locate the padding (43_gost.md R185). -/
def execGostEcbd (s : State) : Host.Outcome State Fault Refusal := .next (modeEcbd .gost s)

/-- GOST.CBCE: CBC-encrypt LEN bytes, the IV as the first output block (43_gost.md R186). -/
def execGostCbce (s : State) : Host.Outcome State Fault Refusal := .next (modeCbce .gost s)

/-- GOST.CBCD: CBC-decrypt LEN bytes whose first block is the IV (43_gost.md R187). -/
def execGostCbcd (s : State) : Host.Outcome State Fault Refusal := .next (modeCbcd .gost s)

end Sys2Proof.Machine
end

