-- ==== Sys2Proof/Machine/TwCommands.lean ====
section
/-! DEFINITION. The 3-Way commands, one meaning each (44_threeway.md R230 to R237). -/

namespace Sys2Proof.Machine

/-- TW.KEYSET: build the schedule from the key at SRC (44_threeway.md R230). -/
def execTwKeyset (s : State) : Host.Outcome State Fault Refusal :=
  .next (keyset .tw s (keysetChecks Config.twKeyLen Config.twKeyLen s) loadTw)

/-- TW.WIPE: erase the key material (44_threeway.md R231). -/
def execTwWipe (s : State) : Host.Outcome State Fault Refusal := .next (wipe .tw s)

/-- TW.ENCB: encrypt one block (44_threeway.md R232). -/
def execTwEncb (s : State) : Host.Outcome State Fault Refusal := .next (blockEncrypt .tw s)

/-- TW.DECB: decrypt one block (44_threeway.md R233). -/
def execTwDecb (s : State) : Host.Outcome State Fault Refusal := .next (blockDecrypt .tw s)

/-- TW.ECBE: ECB-encrypt LEN bytes with padding (44_threeway.md R234). -/
def execTwEcbe (s : State) : Host.Outcome State Fault Refusal := .next (modeEcbe .tw s)

/-- TW.ECBD: ECB-decrypt LEN bytes and locate the padding (44_threeway.md R235). -/
def execTwEcbd (s : State) : Host.Outcome State Fault Refusal := .next (modeEcbd .tw s)

/-- TW.CBCE: CBC-encrypt LEN bytes, the IV as the first output block (44_threeway.md R236). -/
def execTwCbce (s : State) : Host.Outcome State Fault Refusal := .next (modeCbce .tw s)

/-- TW.CBCD: CBC-decrypt LEN bytes whose first block is the IV (44_threeway.md R237). -/
def execTwCbcd (s : State) : Host.Outcome State Fault Refusal := .next (modeCbcd .tw s)

end Sys2Proof.Machine
end

