-- ==== Sys2Proof/Machine/Dispatch.lean ====
section
/-! DEFINITION. What each command does: one arm per row of the opcode table (30_encoding.md R74). -/

namespace Sys2Proof.Machine

def exec (i : Instr) (s : State) : Host.Outcome State Fault Refusal :=
  match i with
  -- BF
  | .bfKeyset => Sys2Proof.Machine.execBfKeyset s
  | .bfWipe => Sys2Proof.Machine.execBfWipe s
  | .bfEncb => Sys2Proof.Machine.execBfEncb s
  | .bfDecb => Sys2Proof.Machine.execBfDecb s
  | .bfEcbe => Sys2Proof.Machine.execBfEcbe s
  | .bfEcbd => Sys2Proof.Machine.execBfEcbd s
  | .bfCbce => Sys2Proof.Machine.execBfCbce s
  | .bfCbcd => Sys2Proof.Machine.execBfCbcd s
  -- GOST
  | .gostKeyset => Sys2Proof.Machine.execGostKeyset s
  | .gostWipe => Sys2Proof.Machine.execGostWipe s
  | .gostEncb => Sys2Proof.Machine.execGostEncb s
  | .gostDecb => Sys2Proof.Machine.execGostDecb s
  | .gostEcbe => Sys2Proof.Machine.execGostEcbe s
  | .gostEcbd => Sys2Proof.Machine.execGostEcbd s
  | .gostCbce => Sys2Proof.Machine.execGostCbce s
  | .gostCbcd => Sys2Proof.Machine.execGostCbcd s
  -- TW
  | .twKeyset => Sys2Proof.Machine.execTwKeyset s
  | .twWipe => Sys2Proof.Machine.execTwWipe s
  | .twEncb => Sys2Proof.Machine.execTwEncb s
  | .twDecb => Sys2Proof.Machine.execTwDecb s
  | .twEcbe => Sys2Proof.Machine.execTwEcbe s
  | .twEcbd => Sys2Proof.Machine.execTwEcbd s
  | .twCbce => Sys2Proof.Machine.execTwCbce s
  | .twCbcd => Sys2Proof.Machine.execTwCbcd s

end Sys2Proof.Machine
end

