-- ==== Sys2Proof/Machine/Port.lean ====
section
/-! DEFINITION. What one host access does at the core's port (10_state.md R22 to R29, 30_encoding.md R75 and R78,
70_reset_and_hazards.md R340). -/

namespace Sys2Proof.Machine

/-- A CMD write of word v runs the command v encodes; an illegal word raises ILLEGAL and changes nothing else
(10_state.md R27; 30_encoding.md R75). -/
def writeCmd (s : State) (v : Word) : Host.Outcome State Fault Refusal :=
  match decode v with
  | .command i => exec i s
  | .illegal _ => .next (s.raise .illegal)

/-- A host write inside the window: CMD (offset 0x00) starts a command, every other offset is a plain register write
(10_state.md R22, R23). -/
def writeWindow (s : State) (offset : Nat) (v : Word) : Host.Outcome State Fault Refusal :=
  if offset = 0x00 then writeCmd s v else .next (writeReg s offset v)

/-- One host access. Sub-word, misaligned and out-of-window accesses and a second host are refused (10_state.md R28;
60_exceptions.md R311; log 10). A host write of bytes that do not exist is a fault (20_memory.md R52; log 9). -/
def hostAccess (s : State) (a : HostAccess) : Host.Outcome State Fault Refusal :=
  match a with
  | .write width offset v =>
    if wellFormedOffset width offset then writeWindow s offset v else .refused .hostAccess
  | .read width offset =>
    if wellFormedOffset width offset then .next { s with observed := readReg s offset :: s.observed }
    else .refused .hostAccess
  | .mem addr bytes =>
    if rangeOk s addr.toNat bytes.length then .next (memWrite s addr bytes) else .fault .hostMemory
  | .reset => .next s.afterReset
  | .otherHost => .refused .secondHost

/-- The next host access is taken off the list and performed. With no access to come the core waits: nothing changes,
since it fetches nothing by itself (10_state.md R29; log 1). -/
def nextAccess (s : State) : Host.Outcome State Fault Refusal :=
  match s.pending with
  | [] => .next s
  | a :: rest => hostAccess { s with pending := rest } a

/-- The access list with a CMD write of the table word `w` put first (log 1). -/
def pendingWithWord (s : State) (nbits w : Nat) : List HostAccess :=
  .write 4 0x00 (BitVec.ofNat 32 (w % 2 ^ nbits)) :: s.pending

end Sys2Proof.Machine
end

