-- ==== Sys2Proof/Machine/Step.lean ====
section
/-! DEFINITION. One step: the host's next access (10_state.md R22, R29), and where the host's pipeline puts a command
word so that the next step runs it. -/

namespace Sys2Proof.Machine

/-- One step of the machine. -/
def step (s : State) : Host.Outcome State Fault Refusal := nextAccess s

/-- `s` with a CMD write of the instruction put first among the host's accesses: the core has no program counter and
fetches nothing, and "each CMD write is one instruction" (10_state.md R29; log 1). -/
def State.withFetchWord (s : State) (nbits w : Nat) : State := { s with pending := pendingWithWord s nbits w }

end Sys2Proof.Machine
end

