-- ==== Sys2Proof/Safety.lean ====
section
/-! DEFINITION. What counts as a safe run, in the terms the claims use: the invariant of the machine, "no error so far",
and the pieces of a frame (what an access leaves unchanged). -/

namespace Sys2Proof.Machine

/-- The invariant every step keeps. Memory is in canonical form and lists only bytes that exist (20_memory.md R52); a
VALID slot holds the schedule of some accepted key (10_state.md R31 to R33); a FAILED slot is wiped (41_blowfish.md R130,
43_gost.md R180, 44_threeway.md R230); OUTLEN is 0 unless the last command ended OK (10_state.md R26). -/
structure State.Inv (s : State) : Prop where
  mem_wf : s.mem.wf = true
  mem_admitted : ∀ c ∈ s.mem, memAdmit s c.1 = true
  bf_valid : s.bf.ks = .valid →
    ∃ key : List Byte, 4 ≤ key.length ∧ key.length ≤ 56 ∧ s.bf.sched = bfKeySchedule key
  gost_valid : s.gost.ks = .valid → ∃ key : List Byte, key.length = 32 ∧ s.gost.sched = gostKeySchedule key
  tw_valid : s.tw.ks = .valid → ∃ key : List Byte, key.length = 12 ∧ s.tw.sched = twKeySchedule key
  bf_failed : s.bf.ks = .failed → s.bf.sched = BfSchedule.zero
  gost_failed : s.gost.ks = .failed → s.gost.sched = GostSchedule.zero
  tw_failed : s.tw.ks = .failed → s.tw.sched = TwSchedule.zero
  outlen_zero : s.code ≠ .ok → s.outlen = 0#32

/-- No command so far has ended in an error: a claim of "no error" rests on the event history, not on STATUS.CODE
(60_exceptions.md R306). -/
def State.noErrorSoFar (s : State) : Prop := ∀ c ∈ s.history, c.isError = false

/-- The step neither stops nor is refused. -/
def State.stepsOn (s : State) : Prop := ∃ t, step s = .next t

/-- SRC, LEN, DST and IVA are unchanged. -/
def sameArguments (s t : State) : Prop := t.src = s.src ∧ t.len = s.len ∧ t.dst = s.dst ∧ t.iva = s.iva

/-- Every key slot, its state and its storage, is unchanged. -/
def sameSlots (s t : State) : Prop := t.bf = s.bf ∧ t.gost = s.gost ∧ t.tw = s.tw

/-- The host's side is unchanged: the accesses to come, what it has read, the platform's memory map, and the count of
reset events. -/
def sameHost (s t : State) : Prop :=
  t.pending = s.pending ∧ t.observed = s.observed ∧ t.holes = s.holes ∧ t.resets = s.resets

/-- Everything a command that stores and loads no key leaves unchanged: the argument registers, the key slots and the
host's side. -/
def sameButMemory (s t : State) : Prop := sameArguments s t ∧ sameSlots s t ∧ sameHost s t

/-- The ranges of `n` bytes at `a` and `m` bytes at `b` share no byte (20_memory.md R60). -/
def disjoint (a n b m : Nat) : Prop := ∀ x, ¬((a ≤ x ∧ x < a + n) ∧ b ≤ x ∧ x < b + m)

/-- Block `j` of a byte string, `B[j*bs .. (j+1)*bs)` (45_mode_ecb.md R251). -/
def blockAt (bs j : Nat) (b : List Byte) : List Byte := (b.drop (j * bs)).take bs

/-- The little-endian word at address `a` of the host's memory (20_memory.md R54). -/
def memWord (s : State) (a : Nat) : Word :=
  s.mem.read (a + 3) ++ s.mem.read (a + 2) ++ s.mem.read (a + 1) ++ s.mem.read a

/-- The command ended with code `c` and output length `n`, and its code joined the event history. -/
def endedWith (s t : State) (c : StatusCode) (n : Nat) : Prop :=
  t.code = c ∧ t.outlen.toNat = n ∧ t.history = c :: s.history

/-- `t`'s memory is `s`'s with `bytes` stored from address `a` on: every stored byte reads as given, and every address
outside the stored bytes reads as before. -/
def storedAt (s t : State) (a : Nat) (bytes : List Byte) : Prop :=
  (∀ i, i < bytes.length → t.mem.read (a + i) = byteAt bytes i) ∧
    ∀ x, (x < a ∨ a + bytes.length ≤ x) → t.mem.read x = s.mem.read x

end Sys2Proof.Machine
end

