-- ==== Sys2Proof/Certificates/Slice0/Reference.lean ====
section
/-! DEFINITION. The spec's pseudocode written a second time, over plain functions and numbered loops, for the statements
to compare the model with: nothing of the machine uses this file. -/

namespace Sys2Proof.Spec

open Sys2Proof.Machine

/-- A Blowfish schedule as the rules write it: `P[i]` and `S[b][i]` (10_state.md R31). -/
structure BfTables where
  p : Nat → Word
  s : Nat → Nat → Word

/-- The model's schedule `k` holds the words of `t`. -/
def BfTables.agrees (t : BfTables) (k : BfSchedule) : Prop :=
  (∀ i : Fin 18, k.p.get i = t.p i) ∧ ∀ (b : Fin 4) (i : Fin 256), (k.s.get b).get i = t.s b i

/-- `F(S, x)` (41_blowfish.md R111). -/
def bfF (s : Nat → Nat → Word) (x : Word) : Word :=
  ((s 0 (x >>> 24).toNat + s 1 ((x >>> 16) &&& 0xFF#32).toNat) ^^^ s 2 ((x >>> 8) &&& 0xFF#32).toNat)
    + s 3 (x &&& 0xFF#32).toNat

/-- `n` passes of the loop of R112 and R113, pass `i` with round key `key i`, swap included. -/
def bfLoop (t : BfTables) (key : Nat → Word) (xl xr : Word) : Nat → Word × Word
  | 0 => (xl, xr)
  | i + 1 =>
    let y := bfLoop t key xl xr i
    (y.2 ^^^ bfF t.s (y.1 ^^^ key i), y.1 ^^^ key i)

/-- BF_EncryptWords (41_blowfish.md R112). -/
def bfEncrypt (t : BfTables) (xl xr : Word) : Word × Word :=
  let y := bfLoop t t.p xl xr 16
  (y.2 ^^^ t.p 17, y.1 ^^^ t.p 16)

/-- BF_DecryptWords: i = 17 downto 2 (41_blowfish.md R113). -/
def bfDecrypt (t : BfTables) (xl xr : Word) : Word × Word :=
  let y := bfLoop t (fun j => t.p (17 - j)) xl xr 16
  (y.2 ^^^ t.p 0, y.1 ^^^ t.p 1)

/-- `KeyWord(K, i)`, most significant byte first (41_blowfish.md R124). -/
def bfKeyWord (key : List Byte) (i : Nat) : Word :=
  byteAt key (4 * i % key.length) ++ byteAt key ((4 * i + 1) % key.length) ++ byteAt key ((4 * i + 2) % key.length)
    ++ byteAt key ((4 * i + 3) % key.length)

/-- `P[i] <- v`. -/
def BfTables.setP (t : BfTables) (i : Nat) (v : Word) : BfTables :=
  { t with p := fun j => if j = i then v else t.p j }

/-- `S[b][i] <- v`. -/
def BfTables.setS (t : BfTables) (b i : Nat) (v : Word) : BfTables :=
  { t with s := fun c j => if c = b ∧ j = i then v else t.s c j }

/-- The schedule under construction and the last output `(l, r)` (41_blowfish.md R125). -/
structure BfBuild where
  t : BfTables
  l : Word
  r : Word

/-- The first `n` encryptions of the loop over P (41_blowfish.md R125). -/
def bfFillP (b : BfBuild) : Nat → BfBuild
  | 0 => b
  | i + 1 =>
    let c := bfFillP b i
    let y := bfEncrypt c.t c.l c.r
    ⟨(c.t.setP (2 * i) y.1).setP (2 * i + 1) y.2, y.1, y.2⟩

/-- The first `n` encryptions of the loop over S-box `box` (41_blowfish.md R125). -/
def bfFillS (box : Nat) (b : BfBuild) : Nat → BfBuild
  | 0 => b
  | i + 1 =>
    let c := bfFillS box b i
    let y := bfEncrypt c.t c.l c.r
    ⟨(c.t.setS box (2 * i) y.1).setS box (2 * i + 1) y.2, y.1, y.2⟩

/-- BF_KeySchedule (41_blowfish.md R125) from BF_INIT as R110 lays it out. -/
def bfKeySchedule (key : List Byte) : BfTables :=
  let init : BfTables :=
    { p := fun i => bfInit.getD i 0#32 ^^^ bfKeyWord key i
      s := fun b i => bfInit.getD (18 + 256 * b + i) 0#32 }
  let b := bfFillP ⟨init, 0#32, 0#32⟩ 9
  (bfFillS 3 (bfFillS 2 (bfFillS 1 (bfFillS 0 b 128) 128) 128) 128).t

/-- The GOST round function: the four bytes re-packed at their positions, rotated left by 11 (43_gost.md R162). -/
def gostF (k : GostSchedule) (x : Word) : Word :=
  ((k.t87.get (x.extractLsb' 24 8).toFin ++ k.t65.get (x.extractLsb' 16 8).toFin
    ++ k.t43.get (x.extractLsb' 8 8).toFin ++ k.t21.get (x.extractLsb' 0 8).toFin : BitVec 32)).rotateLeft 11

/-- ENC_ORDER by index: three times forward, then once reversed (43_gost.md R163). -/
def gostEncOrder (i : Nat) : Fin 8 := if i < 24 then Fin.ofNat 8 i else Fin.ofNat 8 (31 - i)

/-- DEC_ORDER by index: once forward, then three times reversed (43_gost.md R163). -/
def gostDecOrder (i : Nat) : Fin 8 := if i < 8 then Fin.ofNat 8 i else Fin.ofNat 8 (31 - i)

/-- `n` passes of the loop of R164, two rounds each; the pair is (n1, n2). -/
def gostLoop (k : GostSchedule) (ord : Nat → Fin 8) (n1 n2 : Word) : Nat → Word × Word
  | 0 => (n1, n2)
  | r + 1 =>
    let y := gostLoop k ord n1 n2 r
    let m2 := y.2 ^^^ gostF k (y.1 + k.k.get (ord (2 * r)))
    (y.1 ^^^ gostF k (m2 + k.k.get (ord (2 * r + 1))), m2)

/-- ERCON as the table of 44_threeway.md R206 lists it. -/
def ercon : List Word :=
  [0x0b0b#32, 0x1616#32, 0x2c2c#32, 0x5858#32, 0xb0b0#32, 0x7171#32, 0xe2e2#32, 0xd5d5#32, 0xbbbb#32, 0x6767#32,
   0xcece#32, 0x8d8d#32]

/-- DRCON as the table of 44_threeway.md R206 lists it. -/
def drcon : List Word :=
  [0xb1b1#32, 0x7373#32, 0xe6e6#32, 0xdddd#32, 0xabab#32, 0x4747#32, 0x8e8e#32, 0x0d0d#32, 0x1a1a#32, 0x3434#32,
   0x6868#32, 0xd0d0#32]

/-- `n` passes of the loop of R208 and R209. -/
def twLoop (k : Triple) (rc : List Word) (a : Triple) : Nat → Triple
  | 0 => a
  | i + 1 => twRho (twAddRK k (twLoop k rc a i) (rc.getD i 0#32))

/-- Does the operation work on a mode's data, so that SRC = 0 or LEN = 0 means "no data" (45_mode_ecb.md R250)? -/
def isMode : Op → Bool
  | .ecbe | .ecbd | .cbce | .cbcd => true
  | .keyset | .wipe | .encb | .decb => false

/-- KEY_LENGTH: BF outside [4, 56], GOST not 32, TW not 12 (60_exceptions.md R300). -/
def badKeyLength (e : Engine) (n : Nat) : Bool :=
  match e with
  | .bf => n < 4 || 56 < n
  | .gost => n != 32
  | .tw => n != 12

/-- LENGTH: a decrypt length off a block multiple, or a CBCD length below one block (60_exceptions.md R300). -/
def badLength (o : Op) (bs n : Nat) : Bool :=
  match o with
  | .ecbd => n % bs != 0
  | .cbcd => n % bs != 0 || n < bs
  | .keyset | .wipe | .encb | .decb | .ecbe | .cbce => false

/-- The ranges a command reads (30_encoding.md R73): its source, and a supplied IV. -/
def readRanges (o : Op) (bs : Nat) (s : State) : List Region :=
  match o with
  | .wipe => []
  | .encb | .decb => [⟨s.src.toNat, bs⟩]
  | .keyset | .ecbe | .ecbd | .cbcd => [⟨s.src.toNat, s.len.toNat⟩]
  | .cbce => if s.iva = 0#32 then [⟨s.src.toNat, s.len.toNat⟩]
      else [⟨s.src.toNat, s.len.toNat⟩, ⟨s.iva.toNat, bs⟩]

/-- The range a command writes (30_encoding.md R73; 70_reset_and_hazards.md R345). -/
def writeRange (o : Op) (bs : Nat) (s : State) : Region :=
  match o with
  | .keyset | .wipe => ⟨0, 0⟩
  | .encb | .decb => ⟨s.dst.toNat, bs⟩
  | .ecbe => ⟨s.dst.toNat, paddedLen s.len.toNat bs⟩
  | .ecbd => ⟨s.dst.toNat, s.len.toNat⟩
  | .cbce => ⟨s.dst.toNat, paddedLen s.len.toNat bs + bs⟩
  | .cbcd => ⟨s.dst.toNat, s.len.toNat - bs⟩

/-- BUS: a needed range wraps past 2^32 or holds a byte not admitted (60_exceptions.md R300; 20_memory.md R53). -/
def badRange (o : Op) (bs : Nat) (s : State) : Bool :=
  (writeRange o bs s :: readRanges o bs s).any fun r => !rangeOk s r.base r.size

/-- BUS for an ECBE whose padded length exceeds 32 bits, at every DST (45_mode_ecb.md R255; log 11). -/
def badOutputLength (o : Op) (bs : Nat) (s : State) : Bool := o = .ecbe && 2 ^ 32 ≤ (writeRange o bs s).size

/-- OVERLAP: the destination meets a range that is read; a block command may work in place (20_memory.md R60). -/
def badOverlap (o : Op) (bs : Nat) (s : State) : Bool :=
  let w := writeRange o bs s
  !(!isMode o && s.src == s.dst) && (readRanges o bs s).any fun r => overlaps w.base w.size r.base r.size

/-- The code a command reports: the first condition that holds, in the order of 60_exceptions.md R303. -/
def reportedCode (i : Instr) (s : State) : StatusCode :=
  let o := i.op
  let bs := blockLen i.engine
  if o = .keyset then
    if badKeyLength i.engine s.len.toNat then .keyLength else if badRange o bs s then .bus else .ok
  else if o = .wipe then .ok
  else if s.ks i.engine ≠ .valid then .noKey
  else if isMode o && (s.src == 0#32 || s.len == 0#32) then .empty
  else if badLength o bs s.len.toNat then .length
  else if badRange o bs s || badOutputLength o bs s then .bus
  else if badOverlap o bs s then .overlap
  else .ok

end Sys2Proof.Spec
end

