-- ==== Sys2Proof/Certificates/Slice0/Obligations.lean ====
section
/-! DEFINITION. The statements for the provers. Each docstring names the rule of spec/ it formalises. A statement about a
next state says what the command changes and, through `sameArguments`, `sameSlots`, `sameHost`, `storedAt` and the fields
it names, what it leaves unchanged. -/

open Sys2Proof Sys2Proof.Machine

/-! ### Encoding -/

/-- Decoding and encoding agree in both directions: every command's word decodes to it, and a word that decodes to a
command is that command's word (30_encoding.md R70, R74). -/
def Obligations.DecodeAndEncodeAgree : Prop :=
  (∀ i : Instr, decode (encode i) = .command i) ∧ ∀ (v : Word) (i : Instr), decode v = .command i → encode i = v

/-- The complete opcode map of 30_encoding.md R74: a word is a valid command iff RSV = 0, ENG is 0, 1 or 2 and OP is 1 to
8, and the 24 valid words are the listed ones. -/
def Obligations.OpcodeMapIsComplete : Prop :=
  (∀ v : Word, (∃ i, decode v = .command i) ↔
    v >>> 6 = 0#32 ∧ ((v >>> 4) &&& 3#32).toNat ≤ 2 ∧ 1 ≤ (v &&& 15#32).toNat ∧ (v &&& 15#32).toNat ≤ 8) ∧
  ∀ (v : Word) (i : Instr), decode v = .command i ↔ (v, i) ∈
    [(0x01#32, Instr.bfKeyset), (0x02#32, Instr.bfWipe), (0x03#32, Instr.bfEncb), (0x04#32, Instr.bfDecb),
     (0x05#32, Instr.bfEcbe), (0x06#32, Instr.bfEcbd), (0x07#32, Instr.bfCbce), (0x08#32, Instr.bfCbcd),
     (0x11#32, Instr.gostKeyset), (0x12#32, Instr.gostWipe), (0x13#32, Instr.gostEncb), (0x14#32, Instr.gostDecb),
     (0x15#32, Instr.gostEcbe), (0x16#32, Instr.gostEcbd), (0x17#32, Instr.gostCbce), (0x18#32, Instr.gostCbcd),
     (0x21#32, Instr.twKeyset), (0x22#32, Instr.twWipe), (0x23#32, Instr.twEncb), (0x24#32, Instr.twDecb),
     (0x25#32, Instr.twEcbe), (0x26#32, Instr.twEcbd), (0x27#32, Instr.twCbce), (0x28#32, Instr.twCbcd)]

/-- The decode samples V-ENC-1 of 95_test_vectors.md. -/
def Obligations.SampleWordsDecode : Prop :=
  decode 0x00000001#32 = .command .bfKeyset ∧ decode 0x00000008#32 = .command .bfCbcd ∧
  decode 0x00000015#32 = .command .gostEcbe ∧ decode 0x00000028#32 = .command .twCbcd ∧
  decode 0x00000000#32 = .illegal .reservedOp ∧ decode 0x00000009#32 = .illegal .reservedOp ∧
  decode 0x00000031#32 = .illegal .reservedEngine ∧ decode 0x80000003#32 = .illegal .reservedBits

/-! ### The port: steps, registers, reset -/

/-- A step whose next access is a CMD write of a word that decodes to `i` is `exec i`, with that access taken off the
list (10_state.md R22, R27); `withFetchWord` places such an access first (the model's own list, log 1). -/
def Obligations.StepRunsTheDecodedCommand : Prop :=
  (∀ (s : State) (v : Word) (rest : List HostAccess) (i : Instr), s.pending = .write 4 0 v :: rest →
    decode v = .command i → step s = exec i { s with pending := rest }) ∧
  ∀ (s : State) (w : Nat) (i : Instr), decode (BitVec.ofNat 32 (w % 2 ^ 32)) = .command i →
    step (s.withFetchWord 32 w) = exec i s

/-- A CMD write of an illegal word (RSV ≠ 0, ENG = 3, or OP 0 or 9 to 15) sets CODE to ILLEGAL and OUTLEN to 0 and changes
no other register, no key slot and no memory (30_encoding.md R75). The event history and the access list are the model's
own (logs 1 and 7). -/
def Obligations.IllegalWordChangesOnlyTheStatus : Prop :=
  ∀ (s : State) (v : Word) (rest : List HostAccess), s.pending = .write 4 0 v :: rest →
    (v >>> 6 ≠ 0#32 ∨ (v >>> 4) &&& 3#32 = 3#32 ∨ (v &&& 15#32).toNat = 0 ∨ 9 ≤ (v &&& 15#32).toNat) →
    step s = .next { s with pending := rest, code := .illegal, outlen := 0#32, history := .illegal :: s.history }

/-- "Every 32-bit value written is read back unchanged. No command writes them" (10_state.md R24): a write of SRC, LEN,
DST or IVA followed by a read of it observes the value and changes nothing else, and no command changes any of the four. -/
def Obligations.ArgumentRegistersArePlainStorage : Prop :=
  (∀ (s : State) (v : Word) (rest : List HostAccess),
    (s.pending = .write 4 0x08 v :: .read 4 0x08 :: rest →
      Host.Core.run Sys2Proof.core 2 s = .next { s with src := v, observed := v :: s.observed, pending := rest }) ∧
    (s.pending = .write 4 0x0C v :: .read 4 0x0C :: rest →
      Host.Core.run Sys2Proof.core 2 s = .next { s with len := v, observed := v :: s.observed, pending := rest }) ∧
    (s.pending = .write 4 0x10 v :: .read 4 0x10 :: rest →
      Host.Core.run Sys2Proof.core 2 s = .next { s with dst := v, observed := v :: s.observed, pending := rest }) ∧
    (s.pending = .write 4 0x14 v :: .read 4 0x14 :: rest →
      Host.Core.run Sys2Proof.core 2 s = .next { s with iva := v, observed := v :: s.observed, pending := rest })) ∧
  ∀ (i : Instr) (s t : State), exec i s = .next t → sameArguments s t

/-- The STATUS word (10_state.md R25): CODE in bits 3:0 with the numbers of 60_exceptions.md R300, BF_KS in 9:8, GOST_KS in
11:10 and TW_KS in 13:12 as 0 EMPTY, 1 VALID, 2 FAILED, every other bit 0, with a read of offset 0x04 observing it. -/
def Obligations.StatusReadsItsFields : Prop :=
  ∀ (s : State) (rest : List HostAccess), s.pending = .read 4 0x04 :: rest →
    ∃ w : Word, step s = .next { s with observed := w :: s.observed, pending := rest } ∧
      (s.code, w.extractLsb' 0 4) ∈
        [(StatusCode.ok, 0#4), (.empty, 1#4), (.keyLength, 2#4), (.noKey, 3#4), (.illegal, 4#4), (.length, 5#4),
         (.overlap, 6#4), (.bus, 7#4)] ∧
      w.extractLsb' 4 4 = 0#4 ∧
      (s.bf.ks, w.extractLsb' 8 2) ∈ [(KeyState.empty, 0#2), (.valid, 1#2), (.failed, 2#2)] ∧
      (s.gost.ks, w.extractLsb' 10 2) ∈ [(KeyState.empty, 0#2), (.valid, 1#2), (.failed, 2#2)] ∧
      (s.tw.ks, w.extractLsb' 12 2) ∈ [(KeyState.empty, 0#2), (.valid, 1#2), (.failed, 2#2)] ∧
      w.extractLsb' 14 18 = 0#18

/-- Host access rules (10_state.md R23, R26, R27, R28): an aligned 32-bit read inside the window completes, a read of CMD
or a reserved offset observes 0 and a read of offset 0x18 observes OUTLEN, a write of STATUS, OUTLEN or a reserved offset
is ignored, and a sub-word, misaligned or out-of-window access is refused. -/
def Obligations.HostAccessRules : Prop :=
  ∀ (s : State) (width offset : Nat) (v : Word) (rest : List HostAccess),
    (s.pending = .read width offset :: rest → width = 4 → offset % 4 = 0 → offset ≤ 0x3C →
      ∃ w, step s = .next { s with observed := w :: s.observed, pending := rest } ∧
        (offset = 0 ∨ 0x1C ≤ offset → w = 0#32) ∧ (offset = 0x18 → w = s.outlen)) ∧
    (s.pending = .write width offset v :: rest → width = 4 → offset % 4 = 0 → offset ≤ 0x3C →
      (offset = 0x04 ∨ 0x18 ≤ offset) → step s = .next { s with pending := rest }) ∧
    ((s.pending = .read width offset :: rest ∨ s.pending = .write width offset v :: rest) →
      (width ≠ 4 ∨ offset % 4 ≠ 0 ∨ 0x3C < offset) → step s = .refused .hostAccess)

/-- The reset event (70_reset_and_hazards.md R340): every register takes its reset value, every slot is EMPTY, host memory
is unchanged; slot storage is unspecified, so the statement says nothing about it. The event history, the observed words,
the memory map and the entropy count stay (the model's own fields, log 5). -/
def Obligations.ResetClearsRegistersAndKeepsMemory : Prop :=
  ∀ (s : State) (rest : List HostAccess), s.pending = .reset :: rest →
    ∃ t, step s = .next t ∧ t.src = 0#32 ∧ t.len = 0#32 ∧ t.dst = 0#32 ∧ t.iva = 0#32 ∧ t.outlen = 0#32 ∧
      t.code = .ok ∧ t.bf.ks = .empty ∧ t.gost.ks = .empty ∧ t.tw.ks = .empty ∧ t.mem = s.mem ∧
      t.history = s.history ∧ t.observed = s.observed ∧ t.holes = s.holes ∧ t.drawn = s.drawn ∧ t.pending = rest

/-- The register values `State.reset` holds are those of 10_state.md R38. -/
def Obligations.ResetStateHoldsTheResetValues : Prop :=
  State.reset.src = 0#32 ∧ State.reset.len = 0#32 ∧ State.reset.dst = 0#32 ∧ State.reset.iva = 0#32 ∧
  State.reset.outlen = 0#32 ∧ State.reset.code = .ok ∧ State.reset.bf.ks = .empty ∧ State.reset.gost.ks = .empty ∧
  State.reset.tw.ks = .empty ∧ statusWord State.reset = 0#32

/-- A host write of memory stores exactly its bytes and changes nothing else: a key loaded before stays as it is
(20_memory.md R67, 70_reset_and_hazards.md R349; 30_encoding.md R78). Where the bytes do not exist the model stops with a
fault (the model's choice, log 9). -/
def Obligations.HostMemoryWriteStoresItsBytes : Prop :=
  ∀ (s : State) (a : Word) (bytes : List Byte) (rest : List HostAccess), s.mem.wf = true →
    s.pending = .mem a bytes :: rest →
    (rangeOk s a.toNat bytes.length = true →
      ∃ t, step s = .next t ∧ storedAt s t a.toNat bytes ∧ sameArguments s t ∧ sameSlots s t ∧
        t.code = s.code ∧ t.outlen = s.outlen ∧ t.history = s.history ∧ t.observed = s.observed ∧
        t.holes = s.holes ∧ t.drawn = s.drawn ∧ t.resets = s.resets ∧ t.pending = rest) ∧
    (rangeOk s a.toNat bytes.length = false → step s = .fault .hostMemory)

/-- The pseudo-instructions (30_encoding.md R79): running a pseudo-instruction's accesses is running its command with the
registers it names holding its arguments. -/
def Obligations.PseudoInstructionsExpand : Prop :=
  ∀ (e : Engine) (a n d iv : Word) (s : State) (rest : List HostAccess),
    (s.pending = (Pseudo.keyset e a n).expand.map HostLine.access ++ rest →
      Host.Core.run Sys2Proof.core 3 s = exec (.make e .keyset) { s with src := a, len := n, pending := rest }) ∧
    (s.pending = (Pseudo.wipe e).expand.map HostLine.access ++ rest →
      step s = exec (.make e .wipe) { s with pending := rest }) ∧
    (s.pending = (Pseudo.encb e a d).expand.map HostLine.access ++ rest →
      Host.Core.run Sys2Proof.core 3 s = exec (.make e .encb) { s with src := a, dst := d, pending := rest }) ∧
    (s.pending = (Pseudo.decb e a d).expand.map HostLine.access ++ rest →
      Host.Core.run Sys2Proof.core 3 s = exec (.make e .decb) { s with src := a, dst := d, pending := rest }) ∧
    (s.pending = (Pseudo.ecbe e a n d).expand.map HostLine.access ++ rest →
      Host.Core.run Sys2Proof.core 4 s = exec (.make e .ecbe) { s with src := a, len := n, dst := d, pending := rest }) ∧
    (s.pending = (Pseudo.ecbd e a n d).expand.map HostLine.access ++ rest →
      Host.Core.run Sys2Proof.core 4 s = exec (.make e .ecbd) { s with src := a, len := n, dst := d, pending := rest }) ∧
    (s.pending = (Pseudo.cbce e a n d iv).expand.map HostLine.access ++ rest →
      Host.Core.run Sys2Proof.core 5 s =
        exec (.make e .cbce) { s with src := a, len := n, dst := d, iva := iv, pending := rest }) ∧
    (s.pending = (Pseudo.cbcd e a n d).expand.map HostLine.access ++ rest →
      Host.Core.run Sys2Proof.core 4 s = exec (.make e .cbcd) { s with src := a, len := n, dst := d, pending := rest })

/-! ### Memory -/

/-- `RangeOK(a, n)` (20_memory.md R53). -/
def Obligations.RangeOkIsAdmissionOfEveryByte : Prop :=
  ∀ (s : State) (a n : Nat), rangeOk s a n = true ↔
    n = 0 ∨ (a + n ≤ 2 ^ 32 ∧ ∀ i, i < n → memAdmit s (a + i) = true)

/-- MemRead and MemWrite (20_memory.md R55, R56): a string written reads back, and no other byte changes. -/
def Obligations.MemWriteThenMemRead : Prop :=
  ∀ (s : State) (a : Word) (b : List Byte), s.mem.wf = true →
    memRead (memWrite s a b) a b.length = b ∧
    (∀ x, (x < a.toNat ∨ a.toNat + b.length ≤ x) → (memWrite s a b).mem.read x = s.mem.read x) ∧
    ∀ n i, i < n → (memRead s a n).length = n ∧ (memRead s a n).getD i 0#8 = s.mem.read (a.toNat + i)

/-- A byte MEM_ADMIT leaves out "is never read or written" (20_memory.md R52), the written half: no step changes it, and
no step changes MEM_ADMIT. The read half is `UnadmittedBytesAreNeverRead`. -/
def Obligations.UnadmittedBytesAreNeverWritten : Prop :=
  ∀ (s t : State) (a : Nat), s.mem.wf = true → step s = .next t →
    (memAdmit s a = false → t.mem.read a = s.mem.read a) ∧ memAdmit t a = memAdmit s a

/-! ### Invariants -/

/-- The invariant holds at reset. -/
def Obligations.ResetStateMeetsTheInvariant : Prop := State.reset.Inv

/-- Every step keeps the invariant, from every state that meets it (10_state.md R26, R31 to R33; 20_memory.md R52). -/
def Obligations.EveryStepKeepsTheInvariant : Prop :=
  ∀ s t : State, s.Inv → step s = .next t → t.Inv

/-- The event history is never cleared, and grows only by the code a command has just reported (60_exceptions.md R306;
the form of the history is the model's, log 7). -/
def Obligations.EventHistoryIsNeverCleared : Prop :=
  ∀ s t : State, step s = .next t →
    t.history = s.history ∨ (t.history = t.code :: s.history ∧ ∃ v rest, s.pending = .write 4 0 v :: rest)

/-! ### Whole-machine rules over all commands -/

/-- Every command ends, in a next state, from every state: no fault, no refusal, no hang (30_encoding.md R86;
93_implementation_defined.md I25). It never changes the host's side. -/
def Obligations.EveryCommandCompletes : Prop :=
  ∀ (i : Instr) (s : State), ∃ t, exec i s = .next t ∧ sameHost s t ∧ t.history = t.code :: s.history

/-- The code every command reports is the first condition that holds in the order of 60_exceptions.md R303, and OK if none
does. BUS includes an ECBE whose padded length exceeds 32 bits (45_mode_ecb.md R255), at DST = 0 too, where RangeOK of
20_memory.md R53 alone would let it pass: that R255 prevails there over the pseudocode of R251, and that it speaks of every
LEN from 0xFFFFFFF9 to 0xFFFFFFFF with bs = 8, is DEDUCED (log 11). So is that R255 does not reach a CBCE of 2^32 output
bytes, which by 46_mode_cbc.md R272 and R53 reports OVERLAP at DST = 0 (log 11). -/
def Obligations.CodesFollowThePriorityOrder : Prop :=
  ∀ (i : Instr) (s : State), ∃ t, exec i s = .next t ∧ t.code = Spec.reportedCode i s

/-- The effects of `raise Status(c)` (60_exceptions.md R302), and of ending EMPTY: CODE and OUTLEN are set, no byte of
memory, no other slot and no argument register changes and nothing is drawn; a failing KEYSET also wipes its own slot and
sets it FAILED. -/
def Obligations.ErrorsChangeOnlyTheStatus : Prop :=
  ∀ (i : Instr) (s t : State), exec i s = .next t → t.code ≠ .ok →
    (i.op ≠ .keyset → t = { s with code := t.code, outlen := 0#32, history := t.code :: s.history }) ∧
    (i = .bfKeyset → t = { s with code := t.code, outlen := 0#32, history := t.code :: s.history,
                                  bf := ⟨.failed, BfSchedule.zero⟩ }) ∧
    (i = .gostKeyset → t = { s with code := t.code, outlen := 0#32, history := t.code :: s.history,
                                    gost := ⟨.failed, GostSchedule.zero⟩ }) ∧
    (i = .twKeyset → t = { s with code := t.code, outlen := 0#32, history := t.code :: s.history,
                                  tw := ⟨.failed, TwSchedule.zero⟩ })

/-- A mode command on a VALID slot whose data pointer is null or whose length is zero ends `finish(EMPTY, 0)`: it writes
no memory and draws nothing (45_mode_ecb.md R250, 46_mode_cbc.md R270). -/
def Obligations.NullOrEmptyDataEndsEmpty : Prop :=
  ∀ (i : Instr) (s : State), (i.op = .ecbe ∨ i.op = .ecbd ∨ i.op = .cbce ∨ i.op = .cbcd) →
    s.ks i.engine = .valid → (s.src = 0#32 ∨ s.len = 0#32) →
    exec i s = .next { s with code := .empty, outlen := 0#32, history := .empty :: s.history }

/-- "no command on one engine reads or writes another engine's slot" (10_state.md R30): whatever the other two slots hold,
a command does the same and leaves them as they are. -/
def Obligations.CommandsKeepToTheirOwnSlot : Prop :=
  ∀ (i : Instr) (s t : State) (b : Slot BfSchedule) (g : Slot GostSchedule) (w : Slot TwSchedule),
    exec i s = .next t →
    (i.engine = .bf → exec i { s with gost := g, tw := w } = .next { t with gost := g, tw := w }) ∧
    (i.engine = .gost → exec i { s with bf := b, tw := w } = .next { t with bf := b, tw := w }) ∧
    (i.engine = .tw → exec i { s with bf := b, gost := g } = .next { t with bf := b, gost := g })

/-- The storage of a slot that is not VALID is never read (10_state.md R38, 93_implementation_defined.md I8): two states
that differ only in such storage run every command alike, and a slot that is VALID afterwards holds the same schedule. -/
def Obligations.UnloadedStorageIsNeverRead : Prop :=
  ∀ (i : Instr) (s t : State) (b : BfSchedule) (g : GostSchedule) (w : TwSchedule), exec i s = .next t →
    (s.bf.ks = .valid → b = s.bf.sched) → (s.gost.ks = .valid → g = s.gost.sched) →
    (s.tw.ks = .valid → w = s.tw.sched) →
    ∃ b' g' w',
      exec i { s with bf := ⟨s.bf.ks, b⟩, gost := ⟨s.gost.ks, g⟩, tw := ⟨s.tw.ks, w⟩ } =
        .next { t with bf := ⟨t.bf.ks, b'⟩, gost := ⟨t.gost.ks, g'⟩, tw := ⟨t.tw.ks, w'⟩ } ∧
      (t.bf.ks = .valid → b' = t.bf.sched) ∧ (t.gost.ks = .valid → g' = t.gost.sched) ∧
      (t.tw.ks = .valid → w' = t.tw.sched)

/-- No register returns key material (10_state.md R34): what a host read observes does not depend on any slot's storage. -/
def Obligations.RegisterReadsRevealNoSchedule : Prop :=
  ∀ (s : State) (offset : Nat) (b : BfSchedule) (g : GostSchedule) (w : TwSchedule),
    readReg { s with bf := ⟨s.bf.ks, b⟩, gost := ⟨s.gost.ks, g⟩, tw := ⟨s.tw.ks, w⟩ } offset = readReg s offset

/-- "The core calls `Draw` only from CBCE with IVA = NULL_ADDR, with n = BLOCK(E)", and a command that ends EMPTY or
faults draws nothing (40_byte_utilities.md R97, 46_mode_cbc.md R271). -/
def Obligations.EntropyIsDrawnOnlyForGeneratedIvs : Prop :=
  ∀ (i : Instr) (s t : State), exec i s = .next t →
    (i.op = .cbce ∧ s.iva = 0#32 ∧ t.code = .ok → t.drawn = s.drawn + blockLen i.engine) ∧
    (¬(i.op = .cbce ∧ s.iva = 0#32 ∧ t.code = .ok) → t.drawn = s.drawn)

/-- "The CBC encrypt command only reads the memory at IVA" (20_memory.md R68): the supplied IV is never written. -/
def Obligations.SuppliedIvIsNeverWritten : Prop :=
  ∀ (i : Instr) (s t : State) (x : Nat), i.op = .cbce → s.mem.wf = true → exec i s = .next t → s.iva ≠ 0#32 →
    x < blockLen i.engine → t.mem.read (s.iva.toNat + x) = s.mem.read (s.iva.toNat + x)

/-! ### Key and wipe commands -/

/-- BF.KEYSET (41_blowfish.md R130). -/
def Obligations.BfKeysetLoadsOrFails : Prop :=
  ∀ s : State,
    (s.len.toNat < 4 ∨ 56 < s.len.toNat →
      exec .bfKeyset s = .next { s with
        bf := ⟨.failed, BfSchedule.zero⟩, code := .keyLength, outlen := 0#32, history := .keyLength :: s.history }) ∧
    (4 ≤ s.len.toNat ∧ s.len.toNat ≤ 56 → rangeOk s s.src.toNat s.len.toNat = false →
      exec .bfKeyset s = .next { s with
        bf := ⟨.failed, BfSchedule.zero⟩, code := .bus, outlen := 0#32, history := .bus :: s.history }) ∧
    (4 ≤ s.len.toNat ∧ s.len.toNat ≤ 56 → rangeOk s s.src.toNat s.len.toNat = true →
      exec .bfKeyset s = .next { s with
        bf := ⟨.valid, bfKeySchedule (memRead s s.src s.len.toNat)⟩, code := .ok, outlen := 0#32, history := .ok :: s.history })

/-- GOST.KEYSET (43_gost.md R180). -/
def Obligations.GostKeysetLoadsOrFails : Prop :=
  ∀ s : State,
    (s.len.toNat ≠ 32 →
      exec .gostKeyset s = .next { s with
        gost := ⟨.failed, GostSchedule.zero⟩, code := .keyLength, outlen := 0#32, history := .keyLength :: s.history }) ∧
    (s.len.toNat = 32 → rangeOk s s.src.toNat 32 = false →
      exec .gostKeyset s = .next { s with
        gost := ⟨.failed, GostSchedule.zero⟩, code := .bus, outlen := 0#32, history := .bus :: s.history }) ∧
    (s.len.toNat = 32 → rangeOk s s.src.toNat 32 = true →
      exec .gostKeyset s = .next { s with
        gost := ⟨.valid, gostKeySchedule (memRead s s.src 32)⟩, code := .ok, outlen := 0#32, history := .ok :: s.history })

/-- TW.KEYSET (44_threeway.md R230). -/
def Obligations.TwKeysetLoadsOrFails : Prop :=
  ∀ s : State,
    (s.len.toNat ≠ 12 →
      exec .twKeyset s = .next { s with
        tw := ⟨.failed, TwSchedule.zero⟩, code := .keyLength, outlen := 0#32, history := .keyLength :: s.history }) ∧
    (s.len.toNat = 12 → rangeOk s s.src.toNat 12 = false →
      exec .twKeyset s = .next { s with
        tw := ⟨.failed, TwSchedule.zero⟩, code := .bus, outlen := 0#32, history := .bus :: s.history }) ∧
    (s.len.toNat = 12 → rangeOk s s.src.toNat 12 = true →
      exec .twKeyset s = .next { s with
        tw := ⟨.valid, twKeySchedule (memRead s s.src 12)⟩, code := .ok, outlen := 0#32, history := .ok :: s.history })

/-- BF.WIPE, GOST.WIPE and TW.WIPE: in every slot state the storage becomes 0 word by word and the slot EMPTY, and nothing
else but CODE, OUTLEN and the history changes (41_blowfish.md R131, 43_gost.md R181, 44_threeway.md R231). -/
def Obligations.WipeZeroesTheSlot : Prop :=
  ∀ s : State,
    (∃ k, exec .bfWipe s = .next { s with
        bf := ⟨.empty, k⟩, code := .ok, outlen := 0#32, history := .ok :: s.history } ∧
      (∀ i : Fin 18, k.p.get i = 0#32) ∧ ∀ (b : Fin 4) (i : Fin 256), (k.s.get b).get i = 0#32) ∧
    (∃ k, exec .gostWipe s = .next { s with
        gost := ⟨.empty, k⟩, code := .ok, outlen := 0#32, history := .ok :: s.history } ∧
      (∀ i : Fin 8, k.k.get i = 0#32) ∧ ∀ i : Fin 256,
        k.t87.get i = 0#8 ∧ k.t65.get i = 0#8 ∧ k.t43.get i = 0#8 ∧ k.t21.get i = 0#8) ∧
    exec .twWipe s = .next { s with
        tw := ⟨.empty, ⟨⟨0#32, 0#32, 0#32⟩, ⟨0#32, 0#32, 0#32⟩⟩⟩, code := .ok, outlen := 0#32, history := .ok :: s.history }

/-! ### Engines -/

/-- BF_EncryptWords and BF_DecryptWords are the loops of the rules, with the round function of R111 (41_blowfish.md R111,
R112, R113). -/
def Obligations.BlowfishRoundsFollowTheRules : Prop :=
  ∀ (k : BfSchedule) (t : Spec.BfTables) (xl xr : Word), t.agrees k →
    bfF k.s xl = Spec.bfF t.s xl ∧ bfEncryptWords k xl xr = Spec.bfEncrypt t xl xr ∧
    bfDecryptWords k xl xr = Spec.bfDecrypt t xl xr

/-- The key schedule is the loop of 41_blowfish.md R125, word for word, for every accepted key. -/
def Obligations.BlowfishKeyScheduleFollowsTheRule : Prop :=
  ∀ key : List Byte, 4 ≤ key.length → key.length ≤ 56 → (Spec.bfKeySchedule key).agrees (bfKeySchedule key)

/-- Decryption inverts encryption, for every schedule and every pair of words (41_blowfish.md R114). -/
def Obligations.BlowfishDecryptInvertsEncrypt : Prop :=
  ∀ (k : BfSchedule) (xl xr : Word),
    bfDecryptWords k (bfEncryptWords k xl xr).1 (bfEncryptWords k xl xr).2 = (xl, xr)

/-- Two keys with the same 18 key words give the same schedule; K and K ++ K do (41_blowfish.md R127). -/
def Obligations.EqualKeyWordsGiveEqualSchedules : Prop :=
  (∀ k k' : List Byte, (∀ i, i < 18 → bfKeyWord k i = bfKeyWord k' i) → bfKeySchedule k = bfKeySchedule k') ∧
  ∀ k : List Byte, 4 ≤ k.length → (k ++ k).length ≤ 56 → bfKeySchedule (k ++ k) = bfKeySchedule k

/-- GOST: the key words and packed tables of the schedule, entry by entry (43_gost.md R161, R165). -/
def Obligations.GostKeyScheduleFollowsTheRules : Prop :=
  ∀ (key : List Byte), key.length = 32 →
    (∀ j : Fin 8, (gostKeySchedule key).k.get j =
      byteAt key (4 * j + 3) ++ byteAt key (4 * j + 2) ++ byteAt key (4 * j + 1) ++ byteAt key (4 * j)) ∧
    ∀ i : Byte,
      (gostKeySchedule key).t87.get i.toFin =
        gostK8.get (i.extractLsb' 4 4).toFin ++ gostK7.get (i.extractLsb' 0 4).toFin ∧
      (gostKeySchedule key).t65.get i.toFin =
        gostK6.get (i.extractLsb' 4 4).toFin ++ gostK5.get (i.extractLsb' 0 4).toFin ∧
      (gostKeySchedule key).t43.get i.toFin =
        gostK4.get (i.extractLsb' 4 4).toFin ++ gostK3.get (i.extractLsb' 0 4).toFin ∧
      (gostKeySchedule key).t21.get i.toFin =
        gostK2.get (i.extractLsb' 4 4).toFin ++ gostK1.get (i.extractLsb' 0 4).toFin

/-- The 32 GOST rounds are the loop of R164 over the key orders of R163, with the round function of R162, and the output is
(n2, n1) (43_gost.md R162, R163, R164). -/
def Obligations.GostRoundsFollowTheRules : Prop :=
  ∀ (k : GostSchedule) (n1 n2 : Word),
    gostF k n1 = Spec.gostF k n1 ∧
    gostEncryptWords k n1 n2 =
      ((Spec.gostLoop k Spec.gostEncOrder n1 n2 16).2, (Spec.gostLoop k Spec.gostEncOrder n1 n2 16).1) ∧
    gostDecryptWords k n1 n2 =
      ((Spec.gostLoop k Spec.gostDecOrder n1 n2 16).2, (Spec.gostLoop k Spec.gostDecOrder n1 n2 16).1)

/-- GOST decryption inverts encryption, for every schedule (43_gost.md R167). -/
def Obligations.GostDecryptInvertsEncrypt : Prop :=
  ∀ (k : GostSchedule) (n1 n2 : Word),
    gostDecryptWords k (gostEncryptWords k n1 n2).1 (gostEncryptWords k n1 n2).2 = (n1, n2)

/-- γ, θ, π₁, π₂, ρ and AddRK as the formulas of the rules, θ written out for all three words (44_threeway.md R201, R203,
R204, R205, R207). -/
def Obligations.ThreeWayLayersAreTheFormulas : Prop :=
  ∀ (a0 a1 a2 k0 k1 k2 c : Word),
    twGamma ⟨a0, a1, a2⟩ = ⟨~~~a0 ^^^ (~~~a1 &&& a2), ~~~a1 ^^^ (~~~a2 &&& a0), ~~~a2 ^^^ (~~~a0 &&& a1)⟩ ∧
    twTheta ⟨a0, a1, a2⟩ =
      ⟨a0 ^^^ (a0 >>> 16) ^^^ (a1 <<< 16) ^^^ (a1 >>> 16) ^^^ (a2 <<< 16) ^^^ (a1 >>> 24) ^^^ (a2 <<< 8)
          ^^^ (a2 >>> 8) ^^^ (a0 <<< 24) ^^^ (a2 >>> 16) ^^^ (a0 <<< 16) ^^^ (a2 >>> 24) ^^^ (a0 <<< 8),
       a1 ^^^ (a1 >>> 16) ^^^ (a2 <<< 16) ^^^ (a2 >>> 16) ^^^ (a0 <<< 16) ^^^ (a2 >>> 24) ^^^ (a0 <<< 8)
          ^^^ (a0 >>> 8) ^^^ (a1 <<< 24) ^^^ (a0 >>> 16) ^^^ (a1 <<< 16) ^^^ (a0 >>> 24) ^^^ (a1 <<< 8),
       a2 ^^^ (a2 >>> 16) ^^^ (a0 <<< 16) ^^^ (a0 >>> 16) ^^^ (a1 <<< 16) ^^^ (a0 >>> 24) ^^^ (a1 <<< 8)
          ^^^ (a1 >>> 8) ^^^ (a2 <<< 24) ^^^ (a1 >>> 16) ^^^ (a2 <<< 16) ^^^ (a1 >>> 24) ^^^ (a2 <<< 8)⟩ ∧
    twPi1 ⟨a0, a1, a2⟩ = ⟨a0.rotateLeft 22, a1, a2.rotateLeft 1⟩ ∧
    twPi2 ⟨a0, a1, a2⟩ = ⟨a0.rotateLeft 1, a1, a2.rotateLeft 22⟩ ∧
    twRho ⟨a0, a1, a2⟩ = twPi2 (twGamma (twPi1 (twTheta ⟨a0, a1, a2⟩))) ∧
    twAddRK ⟨k0, k1, k2⟩ ⟨a0, a1, a2⟩ c = ⟨a0 ^^^ k0 ^^^ (c <<< 16), a1 ^^^ k1, a2 ^^^ k2 ^^^ c⟩

/-- μ is the bit reversal with the outer words exchanged, and an involution (44_threeway.md R202). -/
def Obligations.MuReversesTheBits : Prop :=
  ∀ a : Triple, (∀ i, i < 32 → (twMu a).a0.getLsbD i = a.a2.getLsbD (31 - i) ∧
      (twMu a).a1.getLsbD i = a.a1.getLsbD (31 - i) ∧ (twMu a).a2.getLsbD i = a.a0.getLsbD (31 - i)) ∧
    twMu (twMu a) = a

/-- TW_EncryptWords and TW_DecryptWords are the loops of the rules over the constants the table of R206 lists
(44_threeway.md R206, R208, R209). -/
def Obligations.ThreeWayRoundsFollowTheRules : Prop :=
  ∀ k a : Triple,
    twErcon = Spec.ercon ∧ twDrcon = Spec.drcon ∧
    twEncryptWords k a = twTheta (twAddRK k (Spec.twLoop k Spec.ercon a 11) 0x8d8d#32) ∧
    twDecryptWords k a = twMu (twTheta (twAddRK k (Spec.twLoop k Spec.drcon (twMu a) 11) 0xd0d0#32))

/-- 3-Way decryption with KI = μ(θ(K)) inverts encryption with K (44_threeway.md R213). -/
def Obligations.ThreeWayDecryptInvertsEncrypt : Prop :=
  ∀ k a : Triple, twDecryptWords (twMu (twTheta k)) (twEncryptWords k a) = a

/-! ### Padding -/

/-- PaddedLen and Pad (40_byte_utilities.md R90, R91). -/
def Obligations.PadAppendsTheMarkerAndZeros : Prop :=
  ∀ (d : List Byte) (bs : Nat), 1 ≤ d.length → (bs = 8 ∨ bs = 12) →
    paddedLen d.length bs = d.length + ((bs - (d.length % bs)) % bs) ∧
    (pad d bs).length = paddedLen d.length bs ∧ paddedLen d.length bs % bs = 0 ∧
    (pad d bs).take d.length = d ∧
    (d.length % bs = 0 → pad d bs = d) ∧
    (d.length % bs ≠ 0 → byteAt (pad d bs) d.length = 0x80#8 ∧
      ∀ i, d.length < i → i < paddedLen d.length bs → byteAt (pad d bs) i = 0x00#8)

/-- PaddingIndex finds the rightmost 0x80 that only zeros follow, and nothing else (40_byte_utilities.md R92). -/
def Obligations.PaddingIndexFindsTheMarker : Prop :=
  ∀ (b : List Byte) (i : Nat), paddingIndex b = some i ↔
    i < b.length ∧ byteAt b i = 0x80#8 ∧ ∀ j, i < j → j < b.length → byteAt b j = 0x00#8

/-! ### Block commands -/

/-- BF.ENCB and BF.DECB on a VALID slot with admitted ranges, in place or without overlap (41_blowfish.md R120, R121, R132,
R133). -/
def Obligations.BlowfishBlockCommandsTransformOneBlock : Prop :=
  ∀ s : State, s.mem.wf = true → s.bf.ks = .valid → rangeOk s s.src.toNat 8 = true → rangeOk s s.dst.toNat 8 = true →
    (s.src = s.dst ∨ disjoint s.src.toNat 8 s.dst.toNat 8) →
    let x := memWord s s.src.toNat
    let y := memWord s (s.src.toNat + 4)
    (∃ t, exec .bfEncb s = .next t ∧ endedWith s t .ok 8 ∧ sameButMemory s t ∧ t.drawn = s.drawn ∧
      storedAt s t s.dst.toNat
        (leBytes (bfEncryptWords s.bf.sched x y).1 ++ leBytes (bfEncryptWords s.bf.sched x y).2)) ∧
    ∃ t, exec .bfDecb s = .next t ∧ endedWith s t .ok 8 ∧ sameButMemory s t ∧ t.drawn = s.drawn ∧
      storedAt s t s.dst.toNat
        (leBytes (bfDecryptWords s.bf.sched x y).1 ++ leBytes (bfDecryptWords s.bf.sched x y).2)

/-- GOST.ENCB and GOST.DECB (43_gost.md R168, R182, R183). -/
def Obligations.GostBlockCommandsTransformOneBlock : Prop :=
  ∀ s : State, s.mem.wf = true → s.gost.ks = .valid → rangeOk s s.src.toNat 8 = true →
    rangeOk s s.dst.toNat 8 = true → (s.src = s.dst ∨ disjoint s.src.toNat 8 s.dst.toNat 8) →
    let x := memWord s s.src.toNat
    let y := memWord s (s.src.toNat + 4)
    (∃ t, exec .gostEncb s = .next t ∧ endedWith s t .ok 8 ∧ sameButMemory s t ∧ t.drawn = s.drawn ∧
      storedAt s t s.dst.toNat
        (leBytes (gostEncryptWords s.gost.sched x y).1 ++ leBytes (gostEncryptWords s.gost.sched x y).2)) ∧
    ∃ t, exec .gostDecb s = .next t ∧ endedWith s t .ok 8 ∧ sameButMemory s t ∧ t.drawn = s.drawn ∧
      storedAt s t s.dst.toNat
        (leBytes (gostDecryptWords s.gost.sched x y).1 ++ leBytes (gostDecryptWords s.gost.sched x y).2)

/-- TW.ENCB (with K) and TW.DECB (with KI) on a 12-byte block (44_threeway.md R214, R232, R233). -/
def Obligations.ThreeWayBlockCommandsTransformOneBlock : Prop :=
  ∀ s : State, s.mem.wf = true → s.tw.ks = .valid → rangeOk s s.src.toNat 12 = true →
    rangeOk s s.dst.toNat 12 = true → (s.src = s.dst ∨ disjoint s.src.toNat 12 s.dst.toNat 12) →
    let a : Triple := ⟨memWord s s.src.toNat, memWord s (s.src.toNat + 4), memWord s (s.src.toNat + 8)⟩
    let c := twEncryptWords s.tw.sched.k a
    let d := twDecryptWords s.tw.sched.ki a
    (∃ t, exec .twEncb s = .next t ∧ endedWith s t .ok 12 ∧ sameButMemory s t ∧ t.drawn = s.drawn ∧
      storedAt s t s.dst.toNat (leBytes c.a0 ++ leBytes c.a1 ++ leBytes c.a2)) ∧
    ∃ t, exec .twDecb s = .next t ∧ endedWith s t .ok 12 ∧ sameButMemory s t ∧ t.drawn = s.drawn ∧
      storedAt s t s.dst.toNat (leBytes d.a0 ++ leBytes d.a1 ++ leBytes d.a2)

/-! ### Mode commands -/

/-- ModeECBE: BF.ECBE, GOST.ECBE and TW.ECBE (45_mode_ecb.md R251): each block of the padded data encrypted on its own. -/
def Obligations.EcbEncryptTransformsEveryBlock : Prop :=
  ∀ (i : Instr) (s : State), i.op = .ecbe →
    let e := i.engine
    let bs := blockLen e
    let n := s.len.toNat
    let p := paddedLen n bs
    let w := pad (memRead s s.src n) bs
    s.mem.wf = true → s.ks e = .valid → s.src ≠ 0#32 → n ≠ 0 → rangeOk s s.src.toNat n = true →
    rangeOk s s.dst.toNat p = true → disjoint s.dst.toNat p s.src.toNat n →
    ∃ t out, exec i s = .next t ∧ endedWith s t .ok p ∧ sameButMemory s t ∧ t.drawn = s.drawn ∧
      storedAt s t s.dst.toNat out ∧ out.length = p ∧
      ∀ j, j * bs < p → blockAt bs j out = encBlock e s (blockAt bs j w)

/-- ModeECBD: BF.ECBD, GOST.ECBD and TW.ECBD (45_mode_ecb.md R252): every decrypted byte is written and OUTLEN is the
trimmed length. -/
def Obligations.EcbDecryptTransformsEveryBlock : Prop :=
  ∀ (i : Instr) (s : State), i.op = .ecbd →
    let e := i.engine
    let bs := blockLen e
    let n := s.len.toNat
    let c := memRead s s.src n
    s.mem.wf = true → s.ks e = .valid → s.src ≠ 0#32 → n ≠ 0 → n % bs = 0 → rangeOk s s.src.toNat n = true →
    rangeOk s s.dst.toNat n = true → disjoint s.dst.toNat n s.src.toNat n →
    ∃ t out, exec i s = .next t ∧ endedWith s t .ok (trimLen out n) ∧ sameButMemory s t ∧ t.drawn = s.drawn ∧
      storedAt s t s.dst.toNat out ∧ out.length = n ∧
      ∀ j, j * bs < n → blockAt bs j out = decBlock e s (blockAt bs j c)

/-- ModeCBCE: BF.CBCE, GOST.CBCE and TW.CBCE (46_mode_cbc.md R271, R272): the first output block is the IV, drawn when IVA
is 0 and read at IVA otherwise, and block j+1 is E(W[j] ⊕ output block j). -/
def Obligations.CbcEncryptChainsEveryBlock : Prop :=
  ∀ (i : Instr) (s : State), i.op = .cbce →
    let e := i.engine
    let bs := blockLen e
    let n := s.len.toNat
    let p := paddedLen n bs
    let w := pad (memRead s s.src n) bs
    s.mem.wf = true → s.ks e = .valid → s.src ≠ 0#32 → n ≠ 0 → rangeOk s s.src.toNat n = true →
    rangeOk s s.dst.toNat (p + bs) = true → disjoint s.dst.toNat (p + bs) s.src.toNat n →
    (s.iva ≠ 0#32 → rangeOk s s.iva.toNat bs = true ∧ disjoint s.dst.toNat (p + bs) s.iva.toNat bs) →
    ∃ t out, exec i s = .next t ∧ endedWith s t .ok (p + bs) ∧ sameButMemory s t ∧
      storedAt s t s.dst.toNat out ∧ out.length = p + bs ∧
      (s.iva ≠ 0#32 → blockAt bs 0 out = memRead s s.iva bs ∧ t.drawn = s.drawn) ∧
      (s.iva = 0#32 → (∀ x, x < bs → byteAt out x = Config.entropy (s.drawn + x)) ∧ t.drawn = s.drawn + bs) ∧
      ∀ j, j * bs < p → blockAt bs (j + 1) out = encBlock e s (xorBytes (blockAt bs j w) (blockAt bs j out))

/-- ModeCBCD: BF.CBCD, GOST.CBCD and TW.CBCD (46_mode_cbc.md R273): output block j is D(input block j+1) ⊕ input block j;
IVA is not read. -/
def Obligations.CbcDecryptUnchainsEveryBlock : Prop :=
  ∀ (i : Instr) (s : State), i.op = .cbcd →
    let e := i.engine
    let bs := blockLen e
    let n := s.len.toNat
    let m := n - bs
    let c := memRead s s.src n
    s.mem.wf = true → s.ks e = .valid → s.src ≠ 0#32 → bs ≤ n → n % bs = 0 → rangeOk s s.src.toNat n = true →
    rangeOk s s.dst.toNat m = true → disjoint s.dst.toNat m s.src.toNat n →
    ∃ t out, exec i s = .next t ∧ endedWith s t .ok (trimLen out m) ∧ sameButMemory s t ∧ t.drawn = s.drawn ∧
      storedAt s t s.dst.toNat out ∧ out.length = m ∧
      ∀ j, j * bs < m → blockAt bs j out = xorBytes (decBlock e s (blockAt bs (j + 1) c)) (blockAt bs j c)

/-- Corner cases of CBC (46_mode_cbc.md R277): CBCD of the IV alone gives OK, writes nothing and reports 0; under an
all-zero supplied IV the first block after the IV is ECBE's; the CBCE output length is PaddedLen(n, bs) + bs. -/
def Obligations.CbcCornerCases : Prop :=
  ∀ (e : Engine) (s t : State), s.mem.wf = true →
    (s.ks e = .valid → s.src ≠ 0#32 → s.len.toNat = blockLen e → rangeOk s s.src.toNat (blockLen e) = true →
      exec (.make e .cbcd) s = .next { s with code := .ok, outlen := 0#32, history := .ok :: s.history }) ∧
    (exec (.make e .cbce) s = .next t → t.code = .ok →
      t.outlen.toNat = paddedLen s.len.toNat (blockLen e) + blockLen e) ∧
    ∀ u, exec (.make e .cbce) s = .next t → t.code = .ok → exec (.make e .ecbe) s = .next u → u.code = .ok →
      s.iva ≠ 0#32 → (∀ x, x < blockLen e → s.mem.read (s.iva.toNat + x) = 0#8) →
      ∀ x, x < blockLen e → t.mem.read (s.dst.toNat + blockLen e + x) = u.mem.read (s.dst.toNat + x)

/-- ECB round trip (45_mode_ecb.md R254): ECBE and then ECBD of its output, to any destination the command accepts, writes
Pad(D, bs) and reports |D|, except that a D of whole blocks that ends in 0x80 and zeros is trimmed at that 0x80. -/
def Obligations.EcbRoundTripRecoversThePlaintext : Prop :=
  ∀ (e : Engine) (s t v : State) (d : Word), s.Inv → exec (.make e .ecbe) s = .next t → t.code = .ok →
    exec (.make e .ecbd) { t with src := t.dst, len := t.outlen, dst := d } = .next v → v.code = .ok →
    let bs := blockLen e
    let data := memRead s s.src s.len.toNat
    storedAt t v d.toNat (pad data bs) ∧
    (data.length % bs ≠ 0 → v.outlen.toNat = data.length) ∧
    (data.length % bs = 0 → paddingIndex data = none → v.outlen.toNat = data.length) ∧
    ∀ i, data.length % bs = 0 → paddingIndex data = some i → v.outlen.toNat = i

/-- CBC round trip (46_mode_cbc.md R276), for a supplied and for a generated IV: the plaintext and the reported length do
not depend on the IV, and the first bs output bytes of CBCE are the IV. -/
def Obligations.CbcRoundTripRecoversThePlaintext : Prop :=
  ∀ (e : Engine) (s t v : State) (d : Word), s.Inv → exec (.make e .cbce) s = .next t → t.code = .ok →
    exec (.make e .cbcd) { t with src := t.dst, len := t.outlen, dst := d } = .next v → v.code = .ok →
    let bs := blockLen e
    let data := memRead s s.src s.len.toNat
    memRead t t.dst bs = cbcIv e s ∧ storedAt t v d.toNat (pad data bs) ∧
    (data.length % bs ≠ 0 → v.outlen.toNat = data.length) ∧
    (data.length % bs = 0 → paddingIndex data = none → v.outlen.toNat = data.length) ∧
    ∀ i, data.length % bs = 0 → paddingIndex data = some i → v.outlen.toNat = i

/-! ### What the review asked to state beside these -/

/-- A byte MEM_ADMIT leaves out "is never read or written" (20_memory.md R52), the read half: whatever such bytes hold, a
command ends with the same CODE, OUTLEN, slots and other fields, and with the same admitted bytes. -/
def Obligations.UnadmittedBytesAreNeverRead : Prop :=
  ∀ (i : Instr) (s t : State) (m : Memory), s.mem.wf = true → m.wf = true →
    (∀ a, memAdmit s a = true → m.read a = s.mem.read a) → exec i s = .next t →
    ∃ m', exec i { s with mem := m } = .next { t with mem := m' } ∧
      ∀ a, memAdmit s a = true → m'.read a = t.mem.read a

/-- Length limits of ECBE, in unbounded integers: a source or a padded destination past 2^32 is BUS, and so is
LEN = 0xFFFFFFFF with bs = 8 at every DST, on a VALID slot with data given (45_mode_ecb.md R255). -/
def Obligations.EcbLengthLimitsGiveBus : Prop :=
  ∀ (e : Engine) (s : State), s.ks e = .valid → s.src ≠ 0#32 → s.len ≠ 0#32 →
    (2 ^ 32 < s.src.toNat + s.len.toNat ∨ 2 ^ 32 < s.dst.toNat + paddedLen s.len.toNat (blockLen e) ∨
      (s.len = 0xFFFFFFFF#32 ∧ blockLen e = 8)) →
    ∃ t, exec (.make e .ecbe) s = .next t ∧ t.code = .bus ∧ t.outlen = 0#32 ∧ t.mem = s.mem
end

