-- ==== Sys2Proof/Laws/State.lean ====
section
/-! SUPPORT. One lemma per field per update of State, true by rfl, so that no later proof unfolds a record update. -/

namespace Sys2Proof.Machine

@[simp] theorem finish_src (s : State) (c : StatusCode) (n : Nat) : (s.finish c n).src = s.src := rfl
@[simp] theorem finish_len (s : State) (c : StatusCode) (n : Nat) : (s.finish c n).len = s.len := rfl
@[simp] theorem finish_dst (s : State) (c : StatusCode) (n : Nat) : (s.finish c n).dst = s.dst := rfl
@[simp] theorem finish_iva (s : State) (c : StatusCode) (n : Nat) : (s.finish c n).iva = s.iva := rfl
@[simp] theorem finish_outlen (s : State) (c : StatusCode) (n : Nat) : (s.finish c n).outlen = BitVec.ofNat 32 n := rfl
@[simp] theorem finish_code (s : State) (c : StatusCode) (n : Nat) : (s.finish c n).code = c := rfl
@[simp] theorem finish_bf (s : State) (c : StatusCode) (n : Nat) : (s.finish c n).bf = s.bf := rfl
@[simp] theorem finish_gost (s : State) (c : StatusCode) (n : Nat) : (s.finish c n).gost = s.gost := rfl
@[simp] theorem finish_tw (s : State) (c : StatusCode) (n : Nat) : (s.finish c n).tw = s.tw := rfl
@[simp] theorem finish_mem (s : State) (c : StatusCode) (n : Nat) : (s.finish c n).mem = s.mem := rfl
@[simp] theorem finish_history (s : State) (c : StatusCode) (n : Nat) : (s.finish c n).history = c :: s.history := rfl
@[simp] theorem finish_pending (s : State) (c : StatusCode) (n : Nat) : (s.finish c n).pending = s.pending := rfl
@[simp] theorem finish_observed (s : State) (c : StatusCode) (n : Nat) : (s.finish c n).observed = s.observed := rfl
@[simp] theorem finish_holes (s : State) (c : StatusCode) (n : Nat) : (s.finish c n).holes = s.holes := rfl
@[simp] theorem finish_drawn (s : State) (c : StatusCode) (n : Nat) : (s.finish c n).drawn = s.drawn := rfl
@[simp] theorem finish_resets (s : State) (c : StatusCode) (n : Nat) : (s.finish c n).resets = s.resets := rfl

@[simp] theorem raise_src (s : State) (c : StatusCode) : (s.raise c).src = s.src := rfl
@[simp] theorem raise_len (s : State) (c : StatusCode) : (s.raise c).len = s.len := rfl
@[simp] theorem raise_dst (s : State) (c : StatusCode) : (s.raise c).dst = s.dst := rfl
@[simp] theorem raise_iva (s : State) (c : StatusCode) : (s.raise c).iva = s.iva := rfl
@[simp] theorem raise_outlen (s : State) (c : StatusCode) : (s.raise c).outlen = 0#32 := rfl
@[simp] theorem raise_code (s : State) (c : StatusCode) : (s.raise c).code = c := rfl
@[simp] theorem raise_bf (s : State) (c : StatusCode) : (s.raise c).bf = s.bf := rfl
@[simp] theorem raise_gost (s : State) (c : StatusCode) : (s.raise c).gost = s.gost := rfl
@[simp] theorem raise_tw (s : State) (c : StatusCode) : (s.raise c).tw = s.tw := rfl
@[simp] theorem raise_mem (s : State) (c : StatusCode) : (s.raise c).mem = s.mem := rfl
@[simp] theorem raise_history (s : State) (c : StatusCode) : (s.raise c).history = c :: s.history := rfl
@[simp] theorem raise_pending (s : State) (c : StatusCode) : (s.raise c).pending = s.pending := rfl
@[simp] theorem raise_observed (s : State) (c : StatusCode) : (s.raise c).observed = s.observed := rfl
@[simp] theorem raise_holes (s : State) (c : StatusCode) : (s.raise c).holes = s.holes := rfl
@[simp] theorem raise_drawn (s : State) (c : StatusCode) : (s.raise c).drawn = s.drawn := rfl
@[simp] theorem raise_resets (s : State) (c : StatusCode) : (s.raise c).resets = s.resets := rfl

@[simp] theorem memWrite_src (s : State) (a : Word) (b : List Byte) : (memWrite s a b).src = s.src := rfl
@[simp] theorem memWrite_len (s : State) (a : Word) (b : List Byte) : (memWrite s a b).len = s.len := rfl
@[simp] theorem memWrite_dst (s : State) (a : Word) (b : List Byte) : (memWrite s a b).dst = s.dst := rfl
@[simp] theorem memWrite_iva (s : State) (a : Word) (b : List Byte) : (memWrite s a b).iva = s.iva := rfl
@[simp] theorem memWrite_outlen (s : State) (a : Word) (b : List Byte) : (memWrite s a b).outlen = s.outlen := rfl
@[simp] theorem memWrite_code (s : State) (a : Word) (b : List Byte) : (memWrite s a b).code = s.code := rfl
@[simp] theorem memWrite_bf (s : State) (a : Word) (b : List Byte) : (memWrite s a b).bf = s.bf := rfl
@[simp] theorem memWrite_gost (s : State) (a : Word) (b : List Byte) : (memWrite s a b).gost = s.gost := rfl
@[simp] theorem memWrite_tw (s : State) (a : Word) (b : List Byte) : (memWrite s a b).tw = s.tw := rfl
@[simp] theorem memWrite_mem (s : State) (a : Word) (b : List Byte) : (memWrite s a b).mem = s.mem.writeBytes a.toNat b := rfl
@[simp] theorem memWrite_history (s : State) (a : Word) (b : List Byte) : (memWrite s a b).history = s.history := rfl
@[simp] theorem memWrite_pending (s : State) (a : Word) (b : List Byte) : (memWrite s a b).pending = s.pending := rfl
@[simp] theorem memWrite_observed (s : State) (a : Word) (b : List Byte) : (memWrite s a b).observed = s.observed := rfl
@[simp] theorem memWrite_holes (s : State) (a : Word) (b : List Byte) : (memWrite s a b).holes = s.holes := rfl
@[simp] theorem memWrite_drawn (s : State) (a : Word) (b : List Byte) : (memWrite s a b).drawn = s.drawn := rfl
@[simp] theorem memWrite_resets (s : State) (a : Word) (b : List Byte) : (memWrite s a b).resets = s.resets := rfl

@[simp] theorem afterDraw_src (s : State) (n : Nat) : (s.afterDraw n).src = s.src := rfl
@[simp] theorem afterDraw_len (s : State) (n : Nat) : (s.afterDraw n).len = s.len := rfl
@[simp] theorem afterDraw_dst (s : State) (n : Nat) : (s.afterDraw n).dst = s.dst := rfl
@[simp] theorem afterDraw_iva (s : State) (n : Nat) : (s.afterDraw n).iva = s.iva := rfl
@[simp] theorem afterDraw_outlen (s : State) (n : Nat) : (s.afterDraw n).outlen = s.outlen := rfl
@[simp] theorem afterDraw_code (s : State) (n : Nat) : (s.afterDraw n).code = s.code := rfl
@[simp] theorem afterDraw_bf (s : State) (n : Nat) : (s.afterDraw n).bf = s.bf := rfl
@[simp] theorem afterDraw_gost (s : State) (n : Nat) : (s.afterDraw n).gost = s.gost := rfl
@[simp] theorem afterDraw_tw (s : State) (n : Nat) : (s.afterDraw n).tw = s.tw := rfl
@[simp] theorem afterDraw_mem (s : State) (n : Nat) : (s.afterDraw n).mem = s.mem := rfl
@[simp] theorem afterDraw_history (s : State) (n : Nat) : (s.afterDraw n).history = s.history := rfl
@[simp] theorem afterDraw_pending (s : State) (n : Nat) : (s.afterDraw n).pending = s.pending := rfl
@[simp] theorem afterDraw_observed (s : State) (n : Nat) : (s.afterDraw n).observed = s.observed := rfl
@[simp] theorem afterDraw_holes (s : State) (n : Nat) : (s.afterDraw n).holes = s.holes := rfl
@[simp] theorem afterDraw_drawn (s : State) (n : Nat) : (s.afterDraw n).drawn = s.drawn + n := rfl
@[simp] theorem afterDraw_resets (s : State) (n : Nat) : (s.afterDraw n).resets = s.resets := rfl

@[simp] theorem loadBf_src (s : State) : (loadBf s).src = s.src := rfl
@[simp] theorem loadBf_len (s : State) : (loadBf s).len = s.len := rfl
@[simp] theorem loadBf_dst (s : State) : (loadBf s).dst = s.dst := rfl
@[simp] theorem loadBf_iva (s : State) : (loadBf s).iva = s.iva := rfl
@[simp] theorem loadBf_outlen (s : State) : (loadBf s).outlen = s.outlen := rfl
@[simp] theorem loadBf_code (s : State) : (loadBf s).code = s.code := rfl
@[simp] theorem loadBf_bf (s : State) : (loadBf s).bf = ⟨.valid, bfKeySchedule (memRead s s.src s.len.toNat)⟩ := rfl
@[simp] theorem loadBf_gost (s : State) : (loadBf s).gost = s.gost := rfl
@[simp] theorem loadBf_tw (s : State) : (loadBf s).tw = s.tw := rfl
@[simp] theorem loadBf_mem (s : State) : (loadBf s).mem = s.mem := rfl
@[simp] theorem loadBf_history (s : State) : (loadBf s).history = s.history := rfl
@[simp] theorem loadBf_pending (s : State) : (loadBf s).pending = s.pending := rfl
@[simp] theorem loadBf_observed (s : State) : (loadBf s).observed = s.observed := rfl
@[simp] theorem loadBf_holes (s : State) : (loadBf s).holes = s.holes := rfl
@[simp] theorem loadBf_drawn (s : State) : (loadBf s).drawn = s.drawn := rfl
@[simp] theorem loadBf_resets (s : State) : (loadBf s).resets = s.resets := rfl

@[simp] theorem loadGost_src (s : State) : (loadGost s).src = s.src := rfl
@[simp] theorem loadGost_len (s : State) : (loadGost s).len = s.len := rfl
@[simp] theorem loadGost_dst (s : State) : (loadGost s).dst = s.dst := rfl
@[simp] theorem loadGost_iva (s : State) : (loadGost s).iva = s.iva := rfl
@[simp] theorem loadGost_outlen (s : State) : (loadGost s).outlen = s.outlen := rfl
@[simp] theorem loadGost_code (s : State) : (loadGost s).code = s.code := rfl
@[simp] theorem loadGost_bf (s : State) : (loadGost s).bf = s.bf := rfl
@[simp] theorem loadGost_gost (s : State) : (loadGost s).gost = ⟨.valid, gostKeySchedule (memRead s s.src Config.gostKeyLen)⟩ := rfl
@[simp] theorem loadGost_tw (s : State) : (loadGost s).tw = s.tw := rfl
@[simp] theorem loadGost_mem (s : State) : (loadGost s).mem = s.mem := rfl
@[simp] theorem loadGost_history (s : State) : (loadGost s).history = s.history := rfl
@[simp] theorem loadGost_pending (s : State) : (loadGost s).pending = s.pending := rfl
@[simp] theorem loadGost_observed (s : State) : (loadGost s).observed = s.observed := rfl
@[simp] theorem loadGost_holes (s : State) : (loadGost s).holes = s.holes := rfl
@[simp] theorem loadGost_drawn (s : State) : (loadGost s).drawn = s.drawn := rfl
@[simp] theorem loadGost_resets (s : State) : (loadGost s).resets = s.resets := rfl

@[simp] theorem loadTw_src (s : State) : (loadTw s).src = s.src := rfl
@[simp] theorem loadTw_len (s : State) : (loadTw s).len = s.len := rfl
@[simp] theorem loadTw_dst (s : State) : (loadTw s).dst = s.dst := rfl
@[simp] theorem loadTw_iva (s : State) : (loadTw s).iva = s.iva := rfl
@[simp] theorem loadTw_outlen (s : State) : (loadTw s).outlen = s.outlen := rfl
@[simp] theorem loadTw_code (s : State) : (loadTw s).code = s.code := rfl
@[simp] theorem loadTw_bf (s : State) : (loadTw s).bf = s.bf := rfl
@[simp] theorem loadTw_gost (s : State) : (loadTw s).gost = s.gost := rfl
@[simp] theorem loadTw_tw (s : State) : (loadTw s).tw = ⟨.valid, twKeySchedule (memRead s s.src Config.twKeyLen)⟩ := rfl
@[simp] theorem loadTw_mem (s : State) : (loadTw s).mem = s.mem := rfl
@[simp] theorem loadTw_history (s : State) : (loadTw s).history = s.history := rfl
@[simp] theorem loadTw_pending (s : State) : (loadTw s).pending = s.pending := rfl
@[simp] theorem loadTw_observed (s : State) : (loadTw s).observed = s.observed := rfl
@[simp] theorem loadTw_holes (s : State) : (loadTw s).holes = s.holes := rfl
@[simp] theorem loadTw_drawn (s : State) : (loadTw s).drawn = s.drawn := rfl
@[simp] theorem loadTw_resets (s : State) : (loadTw s).resets = s.resets := rfl

@[simp] theorem wipeBf_src (s : State) (k : KeyState) : (s.wipeSlot k .bf).src = s.src := rfl
@[simp] theorem wipeBf_len (s : State) (k : KeyState) : (s.wipeSlot k .bf).len = s.len := rfl
@[simp] theorem wipeBf_dst (s : State) (k : KeyState) : (s.wipeSlot k .bf).dst = s.dst := rfl
@[simp] theorem wipeBf_iva (s : State) (k : KeyState) : (s.wipeSlot k .bf).iva = s.iva := rfl
@[simp] theorem wipeBf_outlen (s : State) (k : KeyState) : (s.wipeSlot k .bf).outlen = s.outlen := rfl
@[simp] theorem wipeBf_code (s : State) (k : KeyState) : (s.wipeSlot k .bf).code = s.code := rfl
@[simp] theorem wipeBf_bf (s : State) (k : KeyState) : (s.wipeSlot k .bf).bf = ⟨k, BfSchedule.zero⟩ := rfl
@[simp] theorem wipeBf_gost (s : State) (k : KeyState) : (s.wipeSlot k .bf).gost = s.gost := rfl
@[simp] theorem wipeBf_tw (s : State) (k : KeyState) : (s.wipeSlot k .bf).tw = s.tw := rfl
@[simp] theorem wipeBf_mem (s : State) (k : KeyState) : (s.wipeSlot k .bf).mem = s.mem := rfl
@[simp] theorem wipeBf_history (s : State) (k : KeyState) : (s.wipeSlot k .bf).history = s.history := rfl
@[simp] theorem wipeBf_pending (s : State) (k : KeyState) : (s.wipeSlot k .bf).pending = s.pending := rfl
@[simp] theorem wipeBf_observed (s : State) (k : KeyState) : (s.wipeSlot k .bf).observed = s.observed := rfl
@[simp] theorem wipeBf_holes (s : State) (k : KeyState) : (s.wipeSlot k .bf).holes = s.holes := rfl
@[simp] theorem wipeBf_drawn (s : State) (k : KeyState) : (s.wipeSlot k .bf).drawn = s.drawn := rfl
@[simp] theorem wipeBf_resets (s : State) (k : KeyState) : (s.wipeSlot k .bf).resets = s.resets := rfl

@[simp] theorem wipeGost_src (s : State) (k : KeyState) : (s.wipeSlot k .gost).src = s.src := rfl
@[simp] theorem wipeGost_len (s : State) (k : KeyState) : (s.wipeSlot k .gost).len = s.len := rfl
@[simp] theorem wipeGost_dst (s : State) (k : KeyState) : (s.wipeSlot k .gost).dst = s.dst := rfl
@[simp] theorem wipeGost_iva (s : State) (k : KeyState) : (s.wipeSlot k .gost).iva = s.iva := rfl
@[simp] theorem wipeGost_outlen (s : State) (k : KeyState) : (s.wipeSlot k .gost).outlen = s.outlen := rfl
@[simp] theorem wipeGost_code (s : State) (k : KeyState) : (s.wipeSlot k .gost).code = s.code := rfl
@[simp] theorem wipeGost_bf (s : State) (k : KeyState) : (s.wipeSlot k .gost).bf = s.bf := rfl
@[simp] theorem wipeGost_gost (s : State) (k : KeyState) : (s.wipeSlot k .gost).gost = ⟨k, GostSchedule.zero⟩ := rfl
@[simp] theorem wipeGost_tw (s : State) (k : KeyState) : (s.wipeSlot k .gost).tw = s.tw := rfl
@[simp] theorem wipeGost_mem (s : State) (k : KeyState) : (s.wipeSlot k .gost).mem = s.mem := rfl
@[simp] theorem wipeGost_history (s : State) (k : KeyState) : (s.wipeSlot k .gost).history = s.history := rfl
@[simp] theorem wipeGost_pending (s : State) (k : KeyState) : (s.wipeSlot k .gost).pending = s.pending := rfl
@[simp] theorem wipeGost_observed (s : State) (k : KeyState) : (s.wipeSlot k .gost).observed = s.observed := rfl
@[simp] theorem wipeGost_holes (s : State) (k : KeyState) : (s.wipeSlot k .gost).holes = s.holes := rfl
@[simp] theorem wipeGost_drawn (s : State) (k : KeyState) : (s.wipeSlot k .gost).drawn = s.drawn := rfl
@[simp] theorem wipeGost_resets (s : State) (k : KeyState) : (s.wipeSlot k .gost).resets = s.resets := rfl

@[simp] theorem wipeTw_src (s : State) (k : KeyState) : (s.wipeSlot k .tw).src = s.src := rfl
@[simp] theorem wipeTw_len (s : State) (k : KeyState) : (s.wipeSlot k .tw).len = s.len := rfl
@[simp] theorem wipeTw_dst (s : State) (k : KeyState) : (s.wipeSlot k .tw).dst = s.dst := rfl
@[simp] theorem wipeTw_iva (s : State) (k : KeyState) : (s.wipeSlot k .tw).iva = s.iva := rfl
@[simp] theorem wipeTw_outlen (s : State) (k : KeyState) : (s.wipeSlot k .tw).outlen = s.outlen := rfl
@[simp] theorem wipeTw_code (s : State) (k : KeyState) : (s.wipeSlot k .tw).code = s.code := rfl
@[simp] theorem wipeTw_bf (s : State) (k : KeyState) : (s.wipeSlot k .tw).bf = s.bf := rfl
@[simp] theorem wipeTw_gost (s : State) (k : KeyState) : (s.wipeSlot k .tw).gost = s.gost := rfl
@[simp] theorem wipeTw_tw (s : State) (k : KeyState) : (s.wipeSlot k .tw).tw = ⟨k, TwSchedule.zero⟩ := rfl
@[simp] theorem wipeTw_mem (s : State) (k : KeyState) : (s.wipeSlot k .tw).mem = s.mem := rfl
@[simp] theorem wipeTw_history (s : State) (k : KeyState) : (s.wipeSlot k .tw).history = s.history := rfl
@[simp] theorem wipeTw_pending (s : State) (k : KeyState) : (s.wipeSlot k .tw).pending = s.pending := rfl
@[simp] theorem wipeTw_observed (s : State) (k : KeyState) : (s.wipeSlot k .tw).observed = s.observed := rfl
@[simp] theorem wipeTw_holes (s : State) (k : KeyState) : (s.wipeSlot k .tw).holes = s.holes := rfl
@[simp] theorem wipeTw_drawn (s : State) (k : KeyState) : (s.wipeSlot k .tw).drawn = s.drawn := rfl
@[simp] theorem wipeTw_resets (s : State) (k : KeyState) : (s.wipeSlot k .tw).resets = s.resets := rfl

@[simp] theorem afterReset_src (s : State) : (s.afterReset).src = 0#32 := rfl
@[simp] theorem afterReset_len (s : State) : (s.afterReset).len = 0#32 := rfl
@[simp] theorem afterReset_dst (s : State) : (s.afterReset).dst = 0#32 := rfl
@[simp] theorem afterReset_iva (s : State) : (s.afterReset).iva = 0#32 := rfl
@[simp] theorem afterReset_outlen (s : State) : (s.afterReset).outlen = 0#32 := rfl
@[simp] theorem afterReset_code (s : State) : (s.afterReset).code = .ok := rfl
@[simp] theorem afterReset_bf (s : State) : (s.afterReset).bf = ⟨.empty, resetBf s.resets⟩ := rfl
@[simp] theorem afterReset_gost (s : State) : (s.afterReset).gost = ⟨.empty, resetGost s.resets⟩ := rfl
@[simp] theorem afterReset_tw (s : State) : (s.afterReset).tw = ⟨.empty, resetTw s.resets⟩ := rfl
@[simp] theorem afterReset_mem (s : State) : (s.afterReset).mem = s.mem := rfl
@[simp] theorem afterReset_history (s : State) : (s.afterReset).history = s.history := rfl
@[simp] theorem afterReset_pending (s : State) : (s.afterReset).pending = s.pending := rfl
@[simp] theorem afterReset_observed (s : State) : (s.afterReset).observed = s.observed := rfl
@[simp] theorem afterReset_holes (s : State) : (s.afterReset).holes = s.holes := rfl
@[simp] theorem afterReset_drawn (s : State) : (s.afterReset).drawn = s.drawn := rfl
@[simp] theorem afterReset_resets (s : State) : (s.afterReset).resets = s.resets + 1 := rfl

@[simp] theorem withFetchWord_src (s : State) (n w : Nat) : (s.withFetchWord n w).src = s.src := rfl
@[simp] theorem withFetchWord_len (s : State) (n w : Nat) : (s.withFetchWord n w).len = s.len := rfl
@[simp] theorem withFetchWord_dst (s : State) (n w : Nat) : (s.withFetchWord n w).dst = s.dst := rfl
@[simp] theorem withFetchWord_iva (s : State) (n w : Nat) : (s.withFetchWord n w).iva = s.iva := rfl
@[simp] theorem withFetchWord_outlen (s : State) (n w : Nat) : (s.withFetchWord n w).outlen = s.outlen := rfl
@[simp] theorem withFetchWord_code (s : State) (n w : Nat) : (s.withFetchWord n w).code = s.code := rfl
@[simp] theorem withFetchWord_bf (s : State) (n w : Nat) : (s.withFetchWord n w).bf = s.bf := rfl
@[simp] theorem withFetchWord_gost (s : State) (n w : Nat) : (s.withFetchWord n w).gost = s.gost := rfl
@[simp] theorem withFetchWord_tw (s : State) (n w : Nat) : (s.withFetchWord n w).tw = s.tw := rfl
@[simp] theorem withFetchWord_mem (s : State) (n w : Nat) : (s.withFetchWord n w).mem = s.mem := rfl
@[simp] theorem withFetchWord_history (s : State) (n w : Nat) : (s.withFetchWord n w).history = s.history := rfl
@[simp] theorem withFetchWord_pending (s : State) (n w : Nat) : (s.withFetchWord n w).pending = pendingWithWord s n w := rfl
@[simp] theorem withFetchWord_observed (s : State) (n w : Nat) : (s.withFetchWord n w).observed = s.observed := rfl
@[simp] theorem withFetchWord_holes (s : State) (n w : Nat) : (s.withFetchWord n w).holes = s.holes := rfl
@[simp] theorem withFetchWord_drawn (s : State) (n w : Nat) : (s.withFetchWord n w).drawn = s.drawn := rfl
@[simp] theorem withFetchWord_resets (s : State) (n w : Nat) : (s.withFetchWord n w).resets = s.resets := rfl

/-- The state's own key-slot states by engine. -/
@[simp] theorem ks_bf (s : State) : s.ks .bf = s.bf.ks := rfl
@[simp] theorem ks_gost (s : State) : s.ks .gost = s.gost.ks := rfl
@[simp] theorem ks_tw (s : State) : s.ks .tw = s.tw.ks := rfl

end Sys2Proof.Machine
end

