-- ==== Sys2Proof/Laws/Memory.lean ====
section
/-! SUPPORT. Bytes of memory: a read after a write, the frame of a write, and that every memory operation keeps the
canonical form (20_memory.md R55, R56). -/

namespace Sys2Proof.Machine

theorem Memory.wf_nil : Memory.wf [] = true := rfl

theorem Memory.wf_cons (k : Nat) (c : Byte) (m : Memory) :
    Memory.wf ((k, c) :: m) = true ↔ (∀ x ∈ m, k < x.1) ∧ c ≠ Memory.unlisted ∧ m.wf = true := by
  simp only [Memory.wf, List.pairwise_cons, List.all_cons, Bool.and_eq_true, decide_eq_true_eq, bne_iff_ne, ne_eq]
  tauto

/-- An address below every listed one reads as unlisted. -/
theorem Memory.read_below {m : Memory} {a : Nat} (h : ∀ x ∈ m, a < x.1) : m.read a = Memory.unlisted := by
  cases m with
  | nil => rfl
  | cons c m =>
    obtain ⟨k, b⟩ := c
    have hk : a < k := h (k, b) (by simp)
    simp [Memory.read, hk, Nat.ne_of_lt hk]

/-- Every address a write lists was listed before or is the one written. -/
theorem Memory.write_keys {m : Memory} {a : Nat} {b : Byte} {x : Host.Cell} (h : x ∈ m.write a b) :
    x ∈ m ∨ x.1 = a := by
  induction m with
  | nil =>
    simp only [Memory.write] at h
    split at h <;> simp_all
  | cons c m ih =>
    obtain ⟨k, d⟩ := c
    simp only [Memory.write] at h
    split at h
    · split at h
      · exact .inl h
      · rcases List.mem_cons.1 h with rfl | h
        · exact .inr rfl
        · exact .inl h
    · split at h
      · split at h
        · exact .inl (List.mem_cons_of_mem _ h)
        · rcases List.mem_cons.1 h with rfl | h
          · exact .inr rfl
          · exact .inl (List.mem_cons_of_mem _ h)
      · rcases List.mem_cons.1 h with h | h
        · simp [h]
        · rcases ih h with h | h <;> simp [h]

/-- A write keeps the canonical form. -/
theorem Memory.write_wf {m : Memory} (h : m.wf = true) (a : Nat) (b : Byte) : (m.write a b).wf = true := by
  induction m with
  | nil =>
    simp only [Memory.write]
    split
    · rfl
    · rename_i hb
      exact (Memory.wf_cons a b []).2 ⟨by simp, hb, rfl⟩
  | cons c m ih =>
    obtain ⟨k, d⟩ := c
    obtain ⟨hk, hd, hm⟩ := (Memory.wf_cons k d m).1 h
    simp only [Memory.write]
    split
    · rename_i hak
      split
      · exact h
      · rename_i hb
        refine (Memory.wf_cons a b _).2 ⟨?_, hb, h⟩
        intro x hx
        rcases List.mem_cons.1 hx with rfl | hx
        · exact hak
        · exact Nat.lt_trans hak (hk x hx)
    · split
      · rename_i hak
        split
        · exact hm
        · rename_i hb
          exact (Memory.wf_cons a b m).2 ⟨by simpa [hak] using hk, hb, hm⟩
      · rename_i h1 h2
        refine (Memory.wf_cons k d _).2 ⟨?_, hd, ih hm⟩
        intro x hx
        rcases Memory.write_keys hx with hx | hx
        · exact hk x hx
        · omega

/-- A read of the byte written gives the byte. -/
theorem Memory.read_write_same {m : Memory} (h : m.wf = true) (a : Nat) (b : Byte) : (m.write a b).read a = b := by
  induction m with
  | nil =>
    simp only [Memory.write]
    split
    · rename_i hb; simp [Memory.read, hb]
    · simp [Memory.read]
  | cons c m ih =>
    obtain ⟨k, d⟩ := c
    obtain ⟨hk, hd, hm⟩ := (Memory.wf_cons k d m).1 h
    simp only [Memory.write]
    split
    · rename_i hak
      split
      · rename_i hb; simp [Memory.read, hak, Nat.ne_of_lt hak, hb]
      · simp [Memory.read]
    · split
      · rename_i hak
        split
        · rename_i hb; rw [hb]; exact Memory.read_below (by simpa [hak] using hk)
        · simp [Memory.read]
      · rename_i h1 h2
        simp [Memory.read, h1, h2, ih hm]

/-- A write leaves every other byte alone. -/
theorem Memory.read_write_other {m : Memory} (h : m.wf = true) {a x : Nat} (b : Byte) (hx : x ≠ a) :
    (m.write a b).read x = m.read x := by
  induction m with
  | nil =>
    simp only [Memory.write]
    split <;> simp [Memory.read, hx]
  | cons c m ih =>
    obtain ⟨k, d⟩ := c
    obtain ⟨hk, hd, hm⟩ := (Memory.wf_cons k d m).1 h
    simp only [Memory.write]
    split
    · rename_i hak
      split
      · rfl
      · by_cases hxa : x < a
        · have : x < k := by omega
          simp [Memory.read, hx, hxa, this, Nat.ne_of_lt this]
        · rw [Memory.read]; simp [hx, hxa]
    · split
      · rename_i hak
        subst hak
        have hbelow : x < a → Memory.read m x = Memory.unlisted := fun hlt =>
          Memory.read_below fun y hy => Nat.lt_trans hlt (hk y hy)
        split
        · by_cases hxa : x < a
          · simp [Memory.read, hx, hxa, hbelow hxa]
          · simp [Memory.read, hx, hxa]
        · simp [Memory.read, hx]
      · simp only [Memory.read]
        split
        · rfl
        · split
          · rfl
          · exact ih hm

/-- Storing a byte string keeps the canonical form. -/
theorem Memory.writeBytes_wf {m : Memory} (h : m.wf = true) (a : Nat) (bs : List Byte) :
    (m.writeBytes a bs).wf = true := by
  induction bs generalizing m a with
  | nil => exact h
  | cons b bs ih => exact ih (Memory.write_wf h a b) (a + 1)

/-- Every address a byte string's store lists was listed before or lies in the stored range. -/
theorem Memory.writeBytes_keys {m : Memory} {a : Nat} {bs : List Byte} {x : Host.Cell}
    (h : x ∈ m.writeBytes a bs) : x ∈ m ∨ (a ≤ x.1 ∧ x.1 < a + bs.length) := by
  induction bs generalizing m a with
  | nil => exact .inl h
  | cons b bs ih =>
    simp only [List.length_cons]
    rcases ih h with h | h
    · rcases Memory.write_keys h with h | h
      · exact .inl h
      · exact .inr (by omega)
    · exact .inr (by omega)

/-- A store leaves every byte outside the stored range alone. -/
theorem Memory.read_writeBytes_outside {m : Memory} (h : m.wf = true) {a x : Nat} (bs : List Byte)
    (hx : x < a ∨ a + bs.length ≤ x) : (m.writeBytes a bs).read x = m.read x := by
  induction bs generalizing m a with
  | nil => rfl
  | cons b bs ih =>
    simp only [List.length_cons] at hx
    rw [Memory.writeBytes, ih (Memory.write_wf h a b) (by omega), Memory.read_write_other h b (by omega)]

/-- A store's bytes read back in order. -/
theorem Memory.read_writeBytes_inside {m : Memory} (h : m.wf = true) (a : Nat) (bs : List Byte) {i : Nat}
    (hi : i < bs.length) : (m.writeBytes a bs).read (a + i) = byteAt bs i := by
  induction bs generalizing m a i with
  | nil => simp at hi
  | cons b bs ih =>
    rw [Memory.writeBytes]
    cases i with
    | zero =>
      rw [Memory.read_writeBytes_outside (Memory.write_wf h a b) bs (by omega)]
      simpa [byteAt] using Memory.read_write_same h a b
    | succ i =>
      have := ih (Memory.write_wf h a b) (a + 1) (i := i) (by simpa using hi)
      rw [show a + (i + 1) = a + 1 + i by omega, this]
      simp [byteAt]

@[simp] theorem Memory.readBytes_length (m : Memory) (a n : Nat) : (m.readBytes a n).length = n := by
  induction n generalizing a with
  | zero => rfl
  | succ n ih => simp [Memory.readBytes, ih]

/-- Byte i of a string read from memory is `Mem[a+i]` (20_memory.md R55). -/
theorem Memory.byteAt_readBytes (m : Memory) (a : Nat) {n i : Nat} (hi : i < n) :
    byteAt (m.readBytes a n) i = m.read (a + i) := by
  induction n generalizing a i with
  | zero => simp at hi
  | succ n ih =>
    cases i with
    | zero => simp [Memory.readBytes, byteAt]
    | succ i =>
      have := ih (a + 1) (i := i) (by omega)
      simp only [byteAt, Memory.readBytes, List.getD_cons_succ] at this ⊢
      rw [this]; congr 1; omega

/-- Two memories that agree on a range read the same string there. -/
theorem Memory.readBytes_congr {m m' : Memory} {a n : Nat} (h : ∀ i, i < n → m.read (a + i) = m'.read (a + i)) :
    m.readBytes a n = m'.readBytes a n := by
  induction n generalizing a with
  | zero => rfl
  | succ n ih =>
    have h0 := h 0 (by omega)
    have hs := ih (a := a + 1) fun i hi => by
      have := h (i + 1) (by omega)
      rwa [show a + (i + 1) = a + 1 + i by omega] at this
    simp only [Memory.readBytes, hs]
    simpa using h0

/-- The string just stored reads back. -/
theorem Memory.readBytes_writeBytes {m : Memory} (h : m.wf = true) (a : Nat) (bs : List Byte) :
    (m.writeBytes a bs).readBytes a bs.length = bs := by
  apply List.ext_getElem
  · simp
  · intro i h1 h2
    have hr := Memory.byteAt_readBytes (m.writeBytes a bs) a (n := bs.length) (i := i) h2
    rw [Memory.read_writeBytes_inside h a bs h2] at hr
    rw [byteAt, byteAt, List.getD_eq_getElem _ _ h1, List.getD_eq_getElem _ _ h2] at hr
    exact hr

/-- What `memWrite` does, in the terms of a frame. -/
theorem memWrite_storedAt {s : State} (h : s.mem.wf = true) (a : Word) (bs : List Byte) :
    storedAt s (memWrite s a bs) a.toNat bs :=
  ⟨fun _ hi => Memory.read_writeBytes_inside h a.toNat bs hi,
    fun _ hx => Memory.read_writeBytes_outside h bs hx⟩

theorem reset_mem_wf : State.reset.mem.wf = true := rfl

/-- `Range(a, n) ∩ Range(b, m) = ∅`: no byte lies in both (20_memory.md R60). -/
theorem overlaps_iff (a n b m : Nat) : overlaps a n b m = true ↔ ∃ x, (a ≤ x ∧ x < a + n) ∧ b ≤ x ∧ x < b + m := by
  simp only [overlaps, decide_eq_true_eq]
  constructor
  · rintro ⟨h1, h2, h3, h4⟩
    exact ⟨max a b, by omega, by omega⟩
  · rintro ⟨x, h1, h2⟩
    omega

end Sys2Proof.Machine
end

