-- ==== Sys2Proof/Laws/Bytes.lean ====
section
/-! SUPPORT. Lengths of byte strings, blocks and padding (40_byte_utilities.md R90, R91), and the block length of an
engine. -/

namespace Sys2Proof.Machine

@[simp] theorem leBytes_length (w : Word) : (leBytes w).length = 4 := rfl

theorem blockLen_pos (e : Engine) : 0 < blockLen e := by cases e <;> decide

@[simp] theorem bfEncBlock_length (k : BfSchedule) (b : List Byte) : (bfEncBlock k b).length = 8 := rfl
@[simp] theorem bfDecBlock_length (k : BfSchedule) (b : List Byte) : (bfDecBlock k b).length = 8 := rfl
@[simp] theorem gostEncBlock_length (k : GostSchedule) (b : List Byte) : (gostEncBlock k b).length = 8 := rfl
@[simp] theorem gostDecBlock_length (k : GostSchedule) (b : List Byte) : (gostDecBlock k b).length = 8 := rfl
@[simp] theorem twEncBlock_length (k : TwSchedule) (b : List Byte) : (twEncBlock k b).length = 12 := rfl
@[simp] theorem twDecBlock_length (k : TwSchedule) (b : List Byte) : (twDecBlock k b).length = 12 := rfl

/-- A block function answers a block. -/
@[simp] theorem encBlock_length (e : Engine) (s : State) (b : List Byte) : (encBlock e s b).length = blockLen e := by
  cases e <;> rfl

@[simp] theorem decBlock_length (e : Engine) (s : State) (b : List Byte) : (decBlock e s b).length = blockLen e := by
  cases e <;> rfl

theorem paddedLen_ge (n bs : Nat) : n ≤ paddedLen n bs := by unfold paddedLen; omega

/-- `Pad` answers a string of `PaddedLen` bytes (40_byte_utilities.md R91). -/
@[simp] theorem pad_length (d : List Byte) (bs : Nat) : (pad d bs).length = paddedLen d.length bs := by
  have h := paddedLen_ge d.length bs
  unfold pad
  split
  · omega
  · rename_i k hk
    simp only [List.length_append, List.length_cons, List.length_replicate]
    omega

@[simp] theorem blocksOf_length (bs k : Nat) (w : List Byte) : (blocksOf bs k w).length = k := by
  induction k generalizing w with
  | zero => rfl
  | succ k ih => simp [blocksOf, ih]

/-- Block j is `W[j*bs .. (j+1)*bs)` (45_mode_ecb.md R251). -/
theorem blocksOf_getElem (bs k : Nat) (w : List Byte) {j : Nat} (hj : j < (blocksOf bs k w).length) :
    (blocksOf bs k w)[j] = (w.drop (j * bs)).take bs := by
  induction k generalizing w j with
  | zero => simp at hj
  | succ k ih =>
    cases j with
    | zero => simp [blocksOf]
    | succ j =>
      have hj' : j < (blocksOf bs k (w.drop bs)).length := by simpa [blocksOf] using hj
      have := ih (w.drop bs) hj'
      simp only [blocksOf, List.getElem_cons_succ, this, List.drop_drop]
      rw [show bs + j * bs = (j + 1) * bs by rw [Nat.add_mul]; omega]

@[simp] theorem toBlocks_length (bs : Nat) (w : List Byte) : (toBlocks bs w).length = w.length / bs :=
  blocksOf_length _ _ _

@[simp] theorem memRead_length (s : State) (a : Word) (n : Nat) : (memRead s a n).length = n :=
  Memory.readBytes_length _ _ _

@[simp] theorem drawnBytes_length (s : State) (n : Nat) : (drawnBytes s n).length = n := by simp [drawnBytes]

@[simp] theorem cbcIv_length (e : Engine) (s : State) : (cbcIv e s).length = blockLen e := by
  unfold cbcIv
  split <;> simp

/-- ECB output is one block per block of input. -/
theorem ecbMap_length {f : List Byte → List Byte} {bs : Nat} (hf : ∀ b, (f b).length = bs) (w : List Byte) :
    (ecbMap f bs w).length = bs * (w.length / bs) := by
  simp only [ecbMap, List.length_flatMap, hf, List.map_const', List.sum_replicate, toBlocks_length, smul_eq_mul]
  exact Nat.mul_comm _ _

/-- CBC ciphertext is one block per block of input. -/
theorem cbcEncrypt_length {f : List Byte → List Byte} {bs : Nat} (hf : ∀ b, (f b).length = bs) (fb : List Byte)
    (ws : List (List Byte)) : (cbcEncrypt f fb ws).length = bs * ws.length := by
  induction ws generalizing fb with
  | nil => rfl
  | cons w ws ih => simp [cbcEncrypt, ih, hf, Nat.mul_add, Nat.add_comm]

end Sys2Proof.Machine
end

