-- ==== Sys2Proof/Laws/Commands.lean ====
section
/-! SUPPORT. What each shared body can do, said once: it raises the code its checks answer, or it has its effect. Then
which codes the checks can answer, and when they answer none (60_exceptions.md R300, R303). -/

namespace Sys2Proof.Machine

theorem blockEncrypt_raise {e : Engine} {s : State} {c : StatusCode} (h : blockChecks e s = some c) :
    blockEncrypt e s = s.raise c := by simp [blockEncrypt, h]

theorem blockEncrypt_effect {e : Engine} {s : State} (h : blockChecks e s = none) :
    blockEncrypt e s =
      (memWrite s s.dst (encBlock e s (memRead s s.src (blockLen e)))).finish .ok (blockLen e) := by
  simp [blockEncrypt, h]

theorem blockDecrypt_raise {e : Engine} {s : State} {c : StatusCode} (h : blockChecks e s = some c) :
    blockDecrypt e s = s.raise c := by simp [blockDecrypt, h]

theorem blockDecrypt_effect {e : Engine} {s : State} (h : blockChecks e s = none) :
    blockDecrypt e s =
      (memWrite s s.dst (decBlock e s (memRead s s.src (blockLen e)))).finish .ok (blockLen e) := by
  simp [blockDecrypt, h]

theorem modeEcbe_raise {e : Engine} {s : State} {c : StatusCode} (h : ecbeChecks e s = some c) :
    modeEcbe e s = s.raise c := by simp [modeEcbe, h]

theorem modeEcbe_effect {e : Engine} {s : State} (h : ecbeChecks e s = none) :
    modeEcbe e s =
      (memWrite s s.dst (ecbMap (encBlock e s) (blockLen e) (pad (memRead s s.src s.len.toNat) (blockLen e)))).finish
        .ok (paddedLen s.len.toNat (blockLen e)) := by
  simp [modeEcbe, h]

theorem modeEcbd_raise {e : Engine} {s : State} {c : StatusCode} (h : ecbdChecks e s = some c) :
    modeEcbd e s = s.raise c := by simp [modeEcbd, h]

theorem modeEcbd_effect {e : Engine} {s : State} (h : ecbdChecks e s = none) :
    modeEcbd e s =
      (memWrite s s.dst (ecbMap (decBlock e s) (blockLen e) (memRead s s.src s.len.toNat))).finish .ok
        (trimLen (ecbMap (decBlock e s) (blockLen e) (memRead s s.src s.len.toNat)) s.len.toNat) := by
  simp [modeEcbd, h]

theorem modeCbce_raise {e : Engine} {s : State} {c : StatusCode} (h : cbceChecks e s = some c) :
    modeCbce e s = s.raise c := by simp [modeCbce, h]

/-- CBCE with a supplied IV: nothing is drawn. -/
theorem modeCbce_supplied {e : Engine} {s : State} (h : cbceChecks e s = none) (hg : ivGenerated s = false) :
    modeCbce e s =
      (memWrite s s.dst (memRead s s.iva (blockLen e) ++
        cbcEncrypt (encBlock e s) (memRead s s.iva (blockLen e))
          (toBlocks (blockLen e) (pad (memRead s s.src s.len.toNat) (blockLen e))))).finish
        .ok (paddedLen s.len.toNat (blockLen e) + blockLen e) := by
  simp [modeCbce, h, hg, cbcIv]

/-- CBCE with a generated IV: one block of bytes is drawn. -/
theorem modeCbce_generated {e : Engine} {s : State} (h : cbceChecks e s = none) (hg : ivGenerated s = true) :
    modeCbce e s =
      (memWrite (s.afterDraw (blockLen e)) s.dst (drawnBytes s (blockLen e) ++
        cbcEncrypt (encBlock e s) (drawnBytes s (blockLen e))
          (toBlocks (blockLen e) (pad (memRead s s.src s.len.toNat) (blockLen e))))).finish
        .ok (paddedLen s.len.toNat (blockLen e) + blockLen e) := by
  simp [modeCbce, h, hg, cbcIv]

theorem modeCbcd_raise {e : Engine} {s : State} {c : StatusCode} (h : cbcdChecks e s = some c) :
    modeCbcd e s = s.raise c := by simp [modeCbcd, h]

/-- The bytes CBCD writes: the decrypted blocks after the embedded IV (46_mode_cbc.md R273). -/
theorem modeCbcd_effect {e : Engine} {s : State} (h : cbcdChecks e s = none) (out : List Byte)
    (ho : out = cbcDecrypt (decBlock e s) ((memRead s s.src s.len.toNat).take (blockLen e))
      (toBlocks (blockLen e) ((memRead s s.src s.len.toNat).drop (blockLen e)))) :
    modeCbcd e s = (memWrite s s.dst out).finish .ok (trimLen out (s.len.toNat - blockLen e)) := by
  simp [modeCbcd, h, ho]

theorem blockChecks_codes {e : Engine} {s : State} {c : StatusCode} (h : blockChecks e s = some c) :
    c = .noKey ∨ c = .bus ∨ c = .overlap := by
  simp only [blockChecks] at h
  split_ifs at h <;> simp_all

theorem ecbeChecks_codes {e : Engine} {s : State} {c : StatusCode} (h : ecbeChecks e s = some c) :
    c = .noKey ∨ c = .empty ∨ c = .bus ∨ c = .overlap := by
  simp only [ecbeChecks] at h
  split_ifs at h <;> simp_all

theorem ecbdChecks_codes {e : Engine} {s : State} {c : StatusCode} (h : ecbdChecks e s = some c) :
    c = .noKey ∨ c = .empty ∨ c = .length ∨ c = .bus ∨ c = .overlap := by
  simp only [ecbdChecks] at h
  split_ifs at h <;> simp_all

theorem cbceChecks_codes {e : Engine} {s : State} {c : StatusCode} (h : cbceChecks e s = some c) :
    c = .noKey ∨ c = .empty ∨ c = .bus ∨ c = .overlap := by
  simp only [cbceChecks] at h
  split_ifs at h <;> simp_all

theorem cbcdChecks_codes {e : Engine} {s : State} {c : StatusCode} (h : cbcdChecks e s = some c) :
    c = .noKey ∨ c = .empty ∨ c = .length ∨ c = .bus ∨ c = .overlap := by
  simp only [cbcdChecks] at h
  split_ifs at h <;> simp_all

theorem keysetChecks_codes {lo hi : Nat} {s : State} {c : StatusCode} (h : keysetChecks lo hi s = some c) :
    c = .keyLength ∨ c = .bus := by
  simp only [keysetChecks] at h
  split_ifs at h <;> simp_all

/-- A list of checks answers none exactly when each of its conditions fails. -/
theorem check_none {p : Prop} [Decidable p] {c : StatusCode} {r : Option StatusCode} :
    (if p then some c else r) = none ↔ ¬p ∧ r = none := by
  by_cases h : p <;> simp [h]

theorem keysetChecks_none {lo hi : Nat} {s : State} :
    keysetChecks lo hi s = none ↔
      (lo ≤ s.len.toNat ∧ s.len.toNat ≤ hi) ∧ rangeOk s s.src.toNat s.len.toNat = true := by
  simp only [keysetChecks, check_none]
  simp

theorem blockChecks_none {e : Engine} {s : State} :
    blockChecks e s = none ↔ s.ks e = .valid ∧ rangeOk s s.src.toNat (blockLen e) = true ∧
      rangeOk s s.dst.toNat (blockLen e) = true ∧
      (s.src = s.dst ∨ overlaps s.src.toNat (blockLen e) s.dst.toNat (blockLen e) = false) := by
  simp only [blockChecks, check_none]
  simp only [not_not, Bool.or_eq_true, Bool.not_eq_true', not_or, Bool.not_eq_false, not_and, Bool.not_eq_true]
  tauto

/-- A destination that passes RangeOK and misses the source is shorter than the address space, so the limit of
45_mode_ecb.md R255 is no further condition on an ECBE that goes on. -/
theorem tooLong_eq_false {s : State} {d p a n : Nat} (hn : n ≠ 0) (ha : rangeOk s a n = true) (hd : rangeOk s d p = true)
    (ho : overlaps d p a n = false) : tooLong p = false := by
  simp only [rangeOk, overlaps, tooLong, Config.addrSpace, Bool.or_eq_true, Bool.and_eq_true, beq_iff_eq,
    decide_eq_true_eq, decide_eq_false_iff_not] at *
  omega

theorem ecbeChecks_none {e : Engine} {s : State} :
    ecbeChecks e s = none ↔ s.ks e = .valid ∧ s.src ≠ 0#32 ∧ s.len.toNat ≠ 0 ∧
      rangeOk s s.src.toNat s.len.toNat = true ∧
      rangeOk s s.dst.toNat (paddedLen s.len.toNat (blockLen e)) = true ∧
      overlaps s.dst.toNat (paddedLen s.len.toNat (blockLen e)) s.src.toNat s.len.toNat = false := by
  have limit := @tooLong_eq_false s s.dst.toNat (paddedLen s.len.toNat (blockLen e)) s.src.toNat s.len.toNat
  simp only [ecbeChecks, check_none]
  simp [and_assoc]
  tauto

theorem ecbdChecks_none {e : Engine} {s : State} :
    ecbdChecks e s = none ↔ s.ks e = .valid ∧ s.src ≠ 0#32 ∧ s.len.toNat ≠ 0 ∧ s.len.toNat % blockLen e = 0 ∧
      rangeOk s s.src.toNat s.len.toNat = true ∧ rangeOk s s.dst.toNat s.len.toNat = true ∧
      overlaps s.dst.toNat s.len.toNat s.src.toNat s.len.toNat = false := by
  simp only [ecbdChecks, check_none]
  simp [and_assoc]

theorem cbceChecks_none {e : Engine} {s : State} :
    cbceChecks e s = none ↔ s.ks e = .valid ∧ s.src ≠ 0#32 ∧ s.len.toNat ≠ 0 ∧
      rangeOk s s.src.toNat s.len.toNat = true ∧
      rangeOk s s.dst.toNat (paddedLen s.len.toNat (blockLen e) + blockLen e) = true ∧
      (s.iva ≠ 0#32 → rangeOk s s.iva.toNat (blockLen e) = true) ∧
      overlaps s.dst.toNat (paddedLen s.len.toNat (blockLen e) + blockLen e) s.src.toNat s.len.toNat = false ∧
      (s.iva ≠ 0#32 → overlaps s.dst.toNat (paddedLen s.len.toNat (blockLen e) + blockLen e) s.iva.toNat
        (blockLen e) = false) := by
  simp only [cbceChecks, check_none]
  by_cases hi : s.iva = 0#32 <;> simp [and_assoc, ivGenerated, hi]

theorem cbcdChecks_none {e : Engine} {s : State} :
    cbcdChecks e s = none ↔ s.ks e = .valid ∧ s.src ≠ 0#32 ∧ s.len.toNat ≠ 0 ∧ blockLen e ≤ s.len.toNat ∧
      s.len.toNat % blockLen e = 0 ∧ rangeOk s s.src.toNat s.len.toNat = true ∧
      rangeOk s s.dst.toNat (s.len.toNat - blockLen e) = true ∧
      overlaps s.dst.toNat (s.len.toNat - blockLen e) s.src.toNat s.len.toNat = false := by
  simp only [cbcdChecks, check_none]
  simp [and_assoc]

/-- A failed KEYSET wipes its slot, sets it FAILED and raises. -/
theorem keyset_raise {e : Engine} {s : State} {c : StatusCode} {load : State → State} {checks : Option StatusCode}
    (h : checks = some c) : keyset e s checks load = (s.wipeSlot .failed e).raise c := by simp [keyset, h]

theorem keyset_effect {e : Engine} {s : State} {load : State → State} {checks : Option StatusCode}
    (h : checks = none) : keyset e s checks load = (load s).finish .ok 0 := by simp [keyset, h]

end Sys2Proof.Machine
end

