-- ==== Sys2Proof/Laws/Dispatch.lean ====
section
/-! SUPPORT. The meaning of a command by its operation: the shared body at the command's engine (00_scope.md R12). -/

namespace Sys2Proof.Machine

theorem exec_wipe {i : Instr} (h : i.op = .wipe) (s : State) : exec i s = .next (wipe i.engine s) := by
  cases i <;> first | exact absurd h (by decide) | rfl

theorem exec_encb {i : Instr} (h : i.op = .encb) (s : State) : exec i s = .next (blockEncrypt i.engine s) := by
  cases i <;> first | exact absurd h (by decide) | rfl

theorem exec_decb {i : Instr} (h : i.op = .decb) (s : State) : exec i s = .next (blockDecrypt i.engine s) := by
  cases i <;> first | exact absurd h (by decide) | rfl

theorem exec_ecbe {i : Instr} (h : i.op = .ecbe) (s : State) : exec i s = .next (modeEcbe i.engine s) := by
  cases i <;> first | exact absurd h (by decide) | rfl

theorem exec_ecbd {i : Instr} (h : i.op = .ecbd) (s : State) : exec i s = .next (modeEcbd i.engine s) := by
  cases i <;> first | exact absurd h (by decide) | rfl

theorem exec_cbce {i : Instr} (h : i.op = .cbce) (s : State) : exec i s = .next (modeCbce i.engine s) := by
  cases i <;> first | exact absurd h (by decide) | rfl

theorem exec_cbcd {i : Instr} (h : i.op = .cbcd) (s : State) : exec i s = .next (modeCbcd i.engine s) := by
  cases i <;> first | exact absurd h (by decide) | rfl

end Sys2Proof.Machine
end

