-- ==== Sys2Proof/Laws/PerInstr.lean ====
section
/-! SUPPORT. Facts about every command as syntax, one lemma per constructor. -/

namespace Sys2Proof.Laws.Coding

/-- A command is the pair of its engine and its operation, and the fields of its word pass the checks of
30_encoding.md R74. -/
def Statement (i : Instr) : Prop :=
  Instr.make i.engine i.op = i ∧ (splitWord (encode i)).wellFormed = true ∧
    (encode i).toNat = 16 * i.engine.code + i.op.code

theorem bfKeyset : Statement .bfKeyset := by unfold Statement; decide
theorem bfWipe : Statement .bfWipe := by unfold Statement; decide
theorem bfEncb : Statement .bfEncb := by unfold Statement; decide
theorem bfDecb : Statement .bfDecb := by unfold Statement; decide
theorem bfEcbe : Statement .bfEcbe := by unfold Statement; decide
theorem bfEcbd : Statement .bfEcbd := by unfold Statement; decide
theorem bfCbce : Statement .bfCbce := by unfold Statement; decide
theorem bfCbcd : Statement .bfCbcd := by unfold Statement; decide
theorem gostKeyset : Statement .gostKeyset := by unfold Statement; decide
theorem gostWipe : Statement .gostWipe := by unfold Statement; decide
theorem gostEncb : Statement .gostEncb := by unfold Statement; decide
theorem gostDecb : Statement .gostDecb := by unfold Statement; decide
theorem gostEcbe : Statement .gostEcbe := by unfold Statement; decide
theorem gostEcbd : Statement .gostEcbd := by unfold Statement; decide
theorem gostCbce : Statement .gostCbce := by unfold Statement; decide
theorem gostCbcd : Statement .gostCbcd := by unfold Statement; decide
theorem twKeyset : Statement .twKeyset := by unfold Statement; decide
theorem twWipe : Statement .twWipe := by unfold Statement; decide
theorem twEncb : Statement .twEncb := by unfold Statement; decide
theorem twDecb : Statement .twDecb := by unfold Statement; decide
theorem twEcbe : Statement .twEcbe := by unfold Statement; decide
theorem twEcbd : Statement .twEcbd := by unfold Statement; decide
theorem twCbce : Statement .twCbce := by unfold Statement; decide
theorem twCbcd : Statement .twCbcd := by unfold Statement; decide

end Sys2Proof.Laws.Coding
end

