-- ==== Sys2Proof/Laws/Step.lean ====
section
/-! SUPPORT. What a step can do, by the host's next access (10_state.md R22, R28, R29). -/

namespace Sys2Proof.Machine

/-- With no access to come nothing changes (log 1). -/
theorem step_idle {s : State} (h : s.pending = []) : step s = .next s := by simp [step, nextAccess, h]

theorem step_access {s : State} {a : HostAccess} {rest : List HostAccess} (h : s.pending = a :: rest) :
    step s = hostAccess { s with pending := rest } a := by simp [step, nextAccess, h]

/-- A register write inside the window, CMD's apart, is `writeReg` (10_state.md R23). -/
theorem step_writeReg {s : State} {o : Nat} {v : Word} {rest : List HostAccess}
    (h : s.pending = .write 4 o v :: rest) (ha : o % 4 = 0) (hw : o ≤ 0x3C) (h0 : o ≠ 0) :
    step s = .next (writeReg { s with pending := rest } o v) := by
  simp [step_access h, hostAccess, wellFormedOffset, writeWindow, ha, hw, h0]

/-- If a step answers a next state, the host's next access is one of these and does what it says. -/
theorem step_cases {s t : State} (h : step s = .next t) :
    (s.pending = [] ∧ t = s) ∨
    ∃ a rest, s.pending = a :: rest ∧ hostAccess { s with pending := rest } a = .next t := by
  rcases hp : s.pending with _ | ⟨a, rest⟩
  · rw [step_idle hp] at h
    exact .inl ⟨rfl, by simpa using h.symm⟩
  · rw [step_access hp] at h
    exact .inr ⟨a, rest, rfl, h⟩

/-- If an access answers a next state: a CMD write, another register write, a read, a memory write or the reset. -/
theorem hostAccess_cases {s t : State} {a : HostAccess} (h : hostAccess s a = .next t) :
    (∃ v, a = .write 4 0 v ∧ writeCmd s v = .next t) ∨
    (∃ o v, a = .write 4 o v ∧ o ≠ 0 ∧ t = writeReg s o v) ∨
    (∃ o, a = .read 4 o ∧ t = { s with observed := readReg s o :: s.observed }) ∨
    (∃ x bs, a = .mem x bs ∧ rangeOk s x.toNat bs.length = true ∧ t = memWrite s x bs) ∨
    (a = .reset ∧ t = s.afterReset) := by
  cases a with
  | write w o v =>
    simp only [hostAccess] at h
    split at h
    · rename_i hw
      obtain rfl : w = 4 := by simp_all [wellFormedOffset]
      by_cases h0 : o = 0
      · exact .inl ⟨v, by simp [h0], by simpa [writeWindow, h0] using h⟩
      · have h' : writeReg s o v = t := by simpa [writeWindow, h0] using h
        exact .inr (.inl ⟨o, v, rfl, h0, h'.symm⟩)
    · cases h
  | read w o =>
    simp only [hostAccess] at h
    split at h
    · rename_i hw
      obtain rfl : w = 4 := by simp_all [wellFormedOffset]
      exact .inr (.inr (.inl ⟨o, rfl, by simpa using h.symm⟩))
    · cases h
  | mem x bs =>
    simp only [hostAccess] at h
    split at h
    · rename_i hr
      exact .inr (.inr (.inr (.inl ⟨x, bs, rfl, hr, by simpa using h.symm⟩)))
    · cases h
  | reset => exact .inr (.inr (.inr (.inr ⟨rfl, by simpa [hostAccess] using h.symm⟩)))
  | otherHost => simp [hostAccess] at h

/-- A CMD write runs a command or raises ILLEGAL. -/
theorem writeCmd_cases {s t : State} {v : Word} (h : writeCmd s v = .next t) :
    (∃ i, decode v = .command i ∧ exec i s = .next t) ∨ (∃ w, decode v = .illegal w ∧ t = s.raise .illegal) := by
  simp only [writeCmd] at h
  split at h
  · rename_i i hd
    exact .inl ⟨i, hd, h⟩
  · rename_i w hd
    exact .inr ⟨w, hd, by simpa using h.symm⟩

end Sys2Proof.Machine
end

