-- ==== Sys2Proof/Tests/Slice0.lean ====
section
/-! SUPPORT. The author's own tests. Every expected value comes from spec/: the word encodings of 30_encoding.md, the
vectors V-* of 95_test_vectors.md, or a hand calculation from the cited rule. At the end, for every statement that has
hypotheses, a theorem `witness_<statement>` shows states and operands that meet them, clause by clause. A full Blowfish key
schedule is too long for the kernel here, so the Blowfish commands are tested on the schedule as it stands after the key
XOR, whose first encryption V-BF-10 gives. -/

namespace Sys2Proof.Tests

open Sys2Proof.Machine

set_option Elab.async false

/-! ### Well-formedness: ill-formed terms are refused -/

theorem test_wf_good_fields : CmdFields.wellFormed ⟨8, 2, 0⟩ = true := by decide
theorem test_wf_reserved_bits : CmdFields.wellFormed ⟨1, 0, 1⟩ = false := by decide
theorem test_wf_engine_three : CmdFields.wellFormed ⟨1, 3, 0⟩ = false := by decide
theorem test_wf_op_zero : CmdFields.wellFormed ⟨0, 0, 0⟩ = false := by decide
theorem test_wf_op_nine : CmdFields.wellFormed ⟨9, 0, 0⟩ = false := by decide
theorem test_wf_sub_word : HostAccess.wellFormed (.read 2 0x04) = false := by decide
theorem test_wf_misaligned : HostAccess.wellFormed (.write 4 0x0A 0#32) = false := by decide
theorem test_wf_out_of_window : HostAccess.wellFormed (.read 4 0x40) = false := by decide
theorem test_wf_last_offset : HostAccess.wellFormed (.read 4 0x3C) = true := by decide
theorem test_wf_second_host : HostAccess.wellFormed .otherHost = false := by decide
theorem test_wf_write_status : HostLine.wellFormed (.wr .status 1#32) = false := by decide
theorem test_wf_write_outlen : HostLine.wellFormed (.wr .outlen 1#32) = false := by decide

/-! ### Decoding: each word written out field by field, RSV (26 bits), ENG (2 bits), OP (4 bits) (30_encoding.md R70, R74) -/

/-- A word from its three bit fields. -/
def fields (eng : BitVec 2) (op : BitVec 4) : Word := 0b00000000000000000000000000#26 ++ eng ++ op

theorem test_decode_bf :
    decode (fields 0b00#2 0b0001#4) = .command .bfKeyset ∧ decode (fields 0b00#2 0b0010#4) = .command .bfWipe ∧
    decode (fields 0b00#2 0b0011#4) = .command .bfEncb ∧ decode (fields 0b00#2 0b0100#4) = .command .bfDecb ∧
    decode (fields 0b00#2 0b0101#4) = .command .bfEcbe ∧ decode (fields 0b00#2 0b0110#4) = .command .bfEcbd ∧
    decode (fields 0b00#2 0b0111#4) = .command .bfCbce ∧ decode (fields 0b00#2 0b1000#4) = .command .bfCbcd := by
  decide

theorem test_decode_gost :
    decode (fields 0b01#2 0b0001#4) = .command .gostKeyset ∧ decode (fields 0b01#2 0b0010#4) = .command .gostWipe ∧
    decode (fields 0b01#2 0b0011#4) = .command .gostEncb ∧ decode (fields 0b01#2 0b0100#4) = .command .gostDecb ∧
    decode (fields 0b01#2 0b0101#4) = .command .gostEcbe ∧ decode (fields 0b01#2 0b0110#4) = .command .gostEcbd ∧
    decode (fields 0b01#2 0b0111#4) = .command .gostCbce ∧ decode (fields 0b01#2 0b1000#4) = .command .gostCbcd := by
  decide

theorem test_decode_tw :
    decode (fields 0b10#2 0b0001#4) = .command .twKeyset ∧ decode (fields 0b10#2 0b0010#4) = .command .twWipe ∧
    decode (fields 0b10#2 0b0011#4) = .command .twEncb ∧ decode (fields 0b10#2 0b0100#4) = .command .twDecb ∧
    decode (fields 0b10#2 0b0101#4) = .command .twEcbe ∧ decode (fields 0b10#2 0b0110#4) = .command .twEcbd ∧
    decode (fields 0b10#2 0b0111#4) = .command .twCbce ∧ decode (fields 0b10#2 0b1000#4) = .command .twCbcd := by
  decide

/-- V-ENC-1's illegal words. -/
theorem test_decode_illegal :
    decode 0x0000000F#32 = .illegal .reservedOp ∧ decode 0x0000003F#32 = .illegal .reservedEngine ∧
    decode 0x00000040#32 = .illegal .reservedBits ∧ decode 0x00000043#32 = .illegal .reservedBits ∧
    decode 0x00000029#32 = .illegal .reservedOp ∧ decode 0x00000010#32 = .illegal .reservedOp := by decide

theorem test_decodeTableWord : decodeTableWord 32 0x15 = some .gostEcbe ∧ decodeTableWord 32 0x40 = none := by decide

/-- Mnemonics are case-insensitive (30_encoding.md R79). -/
theorem test_ofMnemonic :
    Instr.ofMnemonic "bf.keyset" = some .bfKeyset ∧ Instr.ofMnemonic "TW.Cbcd" = some .twCbcd ∧
    Instr.ofMnemonic "tw.nop" = none := by decide

/-! ### Registers, memory and padding -/

/-- V-ENC-2. -/
theorem test_statusWord :
    statusWord { State.reset with bf := ⟨.valid, BfSchedule.zero⟩ } = 0x00000100#32 ∧
    statusWord { State.reset with code := .length, gost := ⟨.valid, GostSchedule.zero⟩ } = 0x00000405#32 ∧
    statusWord { State.reset with code := .keyLength, tw := ⟨.failed, TwSchedule.zero⟩ } = 0x00002002#32 ∧
    statusWord { State.reset with code := .empty, tw := ⟨.valid, TwSchedule.zero⟩ } = 0x00001001#32 := by decide +kernel

/-- A reserved offset reads 0, OUTLEN ignores a write (10_state.md R26, R28). -/
theorem test_registers :
    readReg { State.reset with iva := 7#32 } 0x14 = 7#32 ∧ readReg { State.reset with iva := 7#32 } 0x1C = 0#32 ∧
    (writeReg State.reset 0x18 9#32).outlen = 0#32 ∧ (writeReg State.reset 0x0C 9#32).len = 9#32 := by decide +kernel

/-- The end of the address space, and a hole (20_memory.md R51 to R53). -/
theorem test_rangeOk :
    rangeOk State.reset 0xFFFFFFF8 8 = true ∧ rangeOk State.reset 0xFFFFFFF9 8 = false ∧
    rangeOk State.reset 0x100000000 0 = true ∧
    rangeOk { State.reset with holes := [⟨0x8000, 0xFFFF8000⟩] } 0x7FF8 8 = true ∧
    rangeOk { State.reset with holes := [⟨0x8000, 0xFFFF8000⟩] } 0x7FFC 8 = false := by decide +kernel

/-- Writing the value an unlisted byte reads as removes the entry. -/
theorem test_memory_write :
    Memory.write [(5, 1#8), (9, 2#8)] 7 3#8 = [(5, 1#8), (7, 3#8), (9, 2#8)] ∧
    Memory.write [(5, 1#8), (9, 2#8)] 5 0#8 = [(9, 2#8)] ∧ Memory.read [(5, 1#8), (9, 2#8)] 7 = 0#8 := by decide

/-- V-UTIL-1. -/
theorem test_paddedLen :
    paddedLen 3 8 = 8 ∧ paddedLen 8 8 = 8 ∧ paddedLen 39 8 = 40 ∧ paddedLen 13 12 = 24 ∧
    paddedLen 0xFFFFFFFF 8 = 0x100000000 := by decide

/-- V-UTIL-2. -/
theorem test_pad :
    pad [0x41#8] 8 = [0x41#8, 0x80#8, 0#8, 0#8, 0#8, 0#8, 0#8, 0#8] ∧
    pad [1#8, 2#8, 3#8, 4#8, 5#8, 6#8, 7#8, 8#8] 8 = [1#8, 2#8, 3#8, 4#8, 5#8, 6#8, 7#8, 8#8] := by decide

/-- V-UTIL-3: the scan crosses the block boundary; a non-zero byte before the zeros stops it. -/
theorem test_paddingIndex :
    paddingIndex [0x41#8, 0x42#8, 0x43#8, 0x44#8, 0x45#8, 0x46#8, 0x47#8, 0x80#8, 0#8, 0#8, 0#8, 0#8, 0#8, 0#8, 0#8, 0#8]
      = some 7 ∧
    paddingIndex [0x80#8, 0x41#8, 0#8, 0#8] = none ∧ paddingIndex [0x80#8, 0#8, 0#8, 0#8] = some 0 ∧
    paddingIndex [0#8, 0#8, 0#8, 0#8] = none := by decide

/-! ### The engines' primitives -/

/-- V-BF-11. -/
theorem test_bfF :
    bfF sInit 0x00000000#32 = 0x2fcff51e#32 ∧ bfF sInit 0xffffffff#32 = 0x452c2867#32 ∧
    bfF sInit 0x01020304#32 = 0x3cedff8c#32 := by decide +kernel

def bfKey : List Byte := [0x54#8, 0x45#8, 0x53#8, 0x54#8, 0x4b#8, 0x45#8, 0x59#8]

def gostKey : List Byte :=
  [1#8, 2#8, 3#8, 4#8, 5#8, 6#8, 7#8, 8#8, 9#8, 0#8, 1#8, 2#8, 3#8, 4#8, 5#8, 6#8, 7#8, 8#8, 9#8, 0#8, 1#8, 2#8, 3#8, 4#8,
   5#8, 6#8, 7#8, 8#8, 9#8, 0#8, 1#8, 2#8]

def twKey : List Byte := List.replicate 12 0#8

/-- V-BF-10: the key words, and P[17] after the key XOR. -/
theorem test_bfKeyWord :
    bfKeyWord bfKey 1 = 0x4b455954#32 ∧ bfKeyWord bfKey 17 = 0x45595445#32 ∧
    (bfKeyXor bfKey).p[17] = 0xcc20af5e#32 := by decide +kernel

/-- V-GOST-10 and V-GOST-11. -/
theorem test_gostSchedule :
    look (gostKeySchedule gostKey).t87 255 = 0x7a#8 ∧ look (gostKeySchedule gostKey).t65 0x5a = 0x38#8 ∧
    look (gostKeySchedule gostKey).t43 0xa5 = 0x32#8 ∧ look (gostKeySchedule gostKey).t21 0 = 0x4d#8 ∧
    gostF (gostKeySchedule gostKey) 0x12345678#32 = 0x0536d247#32 := by decide +kernel

/-- V-GOST-2, both ways. -/
theorem test_gost_words :
    gostEncryptWords (gostKeySchedule gostKey) 0xaabbccdd#32 0xeeff1122#32 = (0xc9379503#32, 0x626e5b08#32) ∧
    gostDecryptWords (gostKeySchedule gostKey) 0xc9379503#32 0x626e5b08#32 = (0xaabbccdd#32, 0xeeff1122#32) := by
  decide +kernel

/-- V-TW-4 and V-TW-5, and a row of V-TW-11. -/
theorem test_tw_layers :
    twGamma ⟨0x01234567#32, 0x89abcdef#32, 0xfedcba98#32⟩ = ⟨0x88888888#32, 0x77777777#32, 0x89abcdef#32⟩ ∧
    twMu ⟨0x01010101#32, 0x02020202#32, 0x03030303#32⟩ = ⟨0xc0c0c0c0#32, 0x40404040#32, 0x80808080#32⟩ ∧
    twTheta ⟨0x01234567#32, 0x89abcdef#32, 0xfedcba98#32⟩ = ⟨0xab3210fe#32, 0xdc321001#32, 0x23321089#32⟩ ∧
    twRho ⟨0x01234567#32, 0x89abcdef#32, 0xfedcba98#32⟩ = ⟨0x842224d3#32, 0x1a47237a#32, 0xbb1e62f3#32⟩ := by
  decide +kernel

/-- V-TW-2, and V-TW-12's KI for that key. -/
theorem test_tw_words :
    twEncryptWords ⟨0xdef01234#32, 0x456789ab#32, 0xbcdef012#32⟩ ⟨0x23456789#32, 0x9abcdef0#32, 0x01234567#32⟩
      = ⟨0x0aa55dbb#32, 0x9cdddb6d#32, 0x7cdb76b2#32⟩ ∧
    twMu (twTheta ⟨0xdef01234#32, 0x456789ab#32, 0xbcdef012#32⟩) = ⟨0x9290f63e#32, 0x4983f548#32, 0x2eb3c4f5#32⟩ := by
  decide +kernel

/-! ### One command, one step -/

/-- A state with the argument registers SRC, LEN, DST and IVA, and bytes stored at 0x2000. -/
def args (src len dst iva : Word) (bytes : List Byte) : State :=
  memWrite { State.reset with src := src, len := len, dst := dst, iva := iva } 0x2000#32 bytes

/-- Slot(BF) VALID with the schedule as it stands after the key XOR. -/
def withBf (s : State) : State := { s with bf := ⟨.valid, bfKeyXor bfKey⟩ }
/-- Slot(GOST) VALID with the V-GOST key. -/
def withGost (s : State) : State := { s with gost := ⟨.valid, gostKeySchedule gostKey⟩ }
/-- Slot(TW) VALID with the zero key. -/
def withTw (s : State) : State := { s with tw := ⟨.valid, twKeySchedule twKey⟩ }

/-- What one step with command word `w` leaves: CODE, OUTLEN, and `n` bytes of memory at 0x3000. -/
def result (s : State) (w n : Nat) : Option (StatusCode × Nat × List Byte) :=
  match step (s.withFetchWord 32 w) with
  | .next t => some (t.code, t.outlen.toNat, t.mem.readBytes 0x3000 n)
  | _ => none

/-- The three slot states after one step with command word `w`, and CODE. -/
def slots (s : State) (w : Nat) : Option (StatusCode × KeyState × KeyState × KeyState) :=
  match step (s.withFetchWord 32 w) with
  | .next t => some (t.code, t.bf.ks, t.gost.ks, t.tw.ks)
  | _ => none

/-- The first schedule encryption of V-BF-10: (0, 0) becomes (9cfa2180, b0a28a30). -/
def bfCipher : List Byte := [0x80#8, 0x21#8, 0xfa#8, 0x9c#8, 0x30#8, 0x8a#8, 0xa2#8, 0xb0#8]
def ivBytes : List Byte := [0#8, 1#8, 2#8, 3#8, 4#8, 5#8, 6#8, 7#8]

/-- V-BF-13: 56 bytes is the longest key, and 57 fails the slot. -/
theorem test_bfKeyset :
    slots (args 0x2000#32 56#32 0#32 0#32 []) 0x01 = some (.ok, .valid, .empty, .empty) ∧
    slots (withBf (args 0x2000#32 57#32 0#32 0#32 [])) 0x01 = some (.keyLength, .failed, .empty, .empty) := by
  decide +kernel

/-- WIPE is allowed in every slot state (41_blowfish.md R131). -/
theorem test_bfWipe : slots (withTw (withBf State.reset)) 0x02 = some (.ok, .empty, .empty, .valid) := by decide +kernel

theorem test_bfEncb : result (withBf (args 0x2000#32 0#32 0x3000#32 0#32 [])) 0x03 8 = some (.ok, 8, bfCipher) := by
  decide +kernel

theorem test_bfDecb :
    result (withBf (args 0x2000#32 0#32 0x3000#32 0#32 bfCipher)) 0x04 8 = some (.ok, 8, List.replicate 8 0#8) := by
  decide +kernel

/-- Equal blocks give equal ciphertext (45_mode_ecb.md R253). -/
theorem test_bfEcbe :
    result (withBf (args 0x2000#32 16#32 0x3000#32 0#32 [])) 0x05 16 = some (.ok, 16, bfCipher ++ bfCipher) := by
  decide +kernel

/-- All zeros hold no marker, so OUTLEN is LEN. -/
theorem test_bfEcbd :
    result (withBf (args 0x2000#32 8#32 0x3000#32 0#32 bfCipher)) 0x06 8 = some (.ok, 8, List.replicate 8 0#8) := by
  decide +kernel

/-- The plaintext equals the IV, so the first block encrypted is 0 (46_mode_cbc.md R272). SRC and IVA may overlap. -/
theorem test_bfCbce :
    result (withBf (args 0x2000#32 8#32 0x3000#32 0x2000#32 ivBytes)) 0x07 16 = some (.ok, 16, ivBytes ++ bfCipher) := by
  decide +kernel

theorem test_bfCbcd :
    result (withBf (args 0x2000#32 16#32 0x3000#32 0#32 (ivBytes ++ bfCipher))) 0x08 8 = some (.ok, 8, ivBytes) := by
  decide +kernel

/-- Priority: LENGTH before BUS, BUS before OVERLAP (V-EXC-7, V-EXC-9). -/
theorem test_bfEcbd_priority :
    result { withBf (args 0x9000#32 9#32 0#32 0#32 []) with holes := [⟨0x8000, 0xFFFF8000⟩] } 0x06 1
      = some (.length, 0, [0#8]) ∧
    result { withBf (args 0x9000#32 8#32 0x9004#32 0#32 []) with holes := [⟨0x8000, 0xFFFF8000⟩] } 0x06 1
      = some (.bus, 0, [0#8]) := by decide +kernel

/-- 45_mode_ecb.md R255: at DST = 0 with SRC = 1, where every range fits, 2^32 padded bytes are still BUS. -/
theorem test_ecbe_limit : result (withBf (args 1#32 0xFFFFFFFF#32 0#32 0#32 [])) 0x05 0 = some (.bus, 0, []) := by
  decide +kernel

/-- V-GOST-23. -/
theorem test_gostKeyset :
    slots (args 0x2000#32 32#32 0#32 0#32 []) 0x11 = some (.ok, .empty, .valid, .empty) ∧
    slots (withGost (args 0x2000#32 31#32 0#32 0#32 [])) 0x11 = some (.keyLength, .empty, .failed, .empty) := by
  decide +kernel

theorem test_gostWipe : slots (withGost (withBf State.reset)) 0x12 = some (.ok, .valid, .empty, .empty) := by decide +kernel

/-- V-GOST-1. -/
theorem test_gostEncb :
    result (withGost (args 0x2000#32 0#32 0x3000#32 0#32 [])) 0x13 8
      = some (.ok, 8, [0x65#8, 0x7f#8, 0x71#8, 0x9b#8, 0xd0#8, 0x84#8, 0xb8#8, 0x32#8]) := by decide +kernel

/-- V-GOST-2. -/
theorem test_gostDecb :
    result (withGost (args 0x2000#32 0#32 0x3000#32 0#32
      [0x03#8, 0x95#8, 0x37#8, 0xc9#8, 0x08#8, 0x5b#8, 0x6e#8, 0x62#8])) 0x14 8
      = some (.ok, 8, [0xdd#8, 0xcc#8, 0xbb#8, 0xaa#8, 0x22#8, 0x11#8, 0xff#8, 0xee#8]) := by decide +kernel

/-- "GOST". -/
def gostText : List Byte := [0x47#8, 0x4f#8, 0x53#8, 0x54#8]
def gostCipher : List Byte := [0xb6#8, 0x30#8, 0x56#8, 0x45#8, 0x57#8, 0x44#8, 0x6a#8, 0xb1#8]

/-- V-GOST-20. -/
theorem test_gostEcbe :
    result (withGost (args 0x2000#32 4#32 0x3000#32 0#32 gostText)) 0x15 8 = some (.ok, 8, gostCipher) := by decide +kernel

/-- V-GOST-20. -/
theorem test_gostEcbd :
    result (withGost (args 0x2000#32 8#32 0x3000#32 0#32 gostCipher)) 0x16 8
      = some (.ok, 4, gostText ++ [0x80#8, 0#8, 0#8, 0#8]) := by decide +kernel

/-- V-GOST-21. -/
theorem test_gostCbce :
    result (withGost (args 0x2000#32 4#32 0x3000#32 0x2800#32 gostText)) 0x17 16
      = some (.ok, 16, List.replicate 8 0#8 ++ gostCipher) := by decide +kernel

/-- V-GOST-21. -/
theorem test_gostCbcd :
    result (withGost (args 0x2000#32 16#32 0x3000#32 0#32 (List.replicate 8 0#8 ++ gostCipher))) 0x18 8
      = some (.ok, 4, gostText ++ [0x80#8, 0#8, 0#8, 0#8]) := by decide +kernel

/-- V-TW-22, and a key range past the end of the address space (44_threeway.md R230). -/
theorem test_twKeyset :
    slots (withTw (args 0x2000#32 13#32 0#32 0#32 [])) 0x21 = some (.keyLength, .empty, .empty, .failed) ∧
    slots (withTw (args 0xFFFFFFFF#32 12#32 0#32 0#32 [])) 0x21 = some (.bus, .empty, .empty, .failed) := by
  decide +kernel

theorem test_twWipe :
    slots (withGost { State.reset with tw := ⟨.failed, TwSchedule.zero⟩ }) 0x22 = some (.ok, .empty, .valid, .empty) := by
  decide +kernel

/-- V-TW-1's block. -/
def twPlain : List Byte := [1#8, 0#8, 0#8, 0#8, 1#8, 0#8, 0#8, 0#8, 1#8, 0#8, 0#8, 0#8]
def twCipher : List Byte :=
  [0x6e#8, 0xc7#8, 0x59#8, 0x40#8, 0xc4#8, 0x9d#8, 0xae#8, 0x83#8, 0xf7#8, 0xec#8, 0x21#8, 0xad#8]

/-- V-TW-1. -/
theorem test_twEncb :
    result (withTw (args 0x2000#32 0#32 0x3000#32 0#32 twPlain)) 0x23 12 = some (.ok, 12, twCipher) := by decide +kernel

/-- V-TW-1. -/
theorem test_twDecb :
    result (withTw (args 0x2000#32 0#32 0x3000#32 0#32 twCipher)) 0x24 12 = some (.ok, 12, twPlain) := by decide +kernel

/-- "3-Way". -/
def wayText : List Byte := [0x33#8, 0x2d#8, 0x57#8, 0x61#8, 0x79#8]
def wayCipher : List Byte :=
  [0x04#8, 0x80#8, 0x48#8, 0xf9#8, 0x2e#8, 0x4c#8, 0x70#8, 0xc8#8, 0xce#8, 0x82#8, 0x95#8, 0x52#8]

/-- V-TW-20. -/
theorem test_twEcbe :
    result (withTw (args 0x2000#32 5#32 0x3000#32 0#32 wayText)) 0x25 12 = some (.ok, 12, wayCipher) := by decide +kernel

/-- V-TW-20. -/
theorem test_twEcbd :
    result (withTw (args 0x2000#32 12#32 0x3000#32 0#32 wayCipher)) 0x26 5 = some (.ok, 5, wayText) := by decide +kernel

/-- V-TW-21. -/
theorem test_twCbce :
    result (withTw (args 0x2000#32 5#32 0x3000#32 0x2800#32 wayText)) 0x27 24
      = some (.ok, 24, List.replicate 12 0#8 ++ wayCipher) := by decide +kernel

/-- V-TW-21, and V-TW-22's CBCD of the IV alone. -/
theorem test_twCbcd :
    result (withTw (args 0x2000#32 24#32 0x3000#32 0#32 (List.replicate 12 0#8 ++ wayCipher))) 0x28 5
      = some (.ok, 5, wayText) ∧
    result (withTw (args 0x2000#32 12#32 0x3000#32 0#32 [])) 0x28 0 = some (.ok, 0, []) := by decide +kernel

/-! ### Witnesses: states and operands that meet each statement's hypotheses -/

theorem disjoint_of {a n b m : Nat} (h : a + n ≤ b ∨ b + m ≤ a) : disjoint a n b m := by
  intro x hx
  omega

/-- All three slots VALID, each with the schedule of an accepted key, and "3-Way" at 0x2000. -/
def loaded (src len dst iva : Word) : State :=
  { args src len dst iva wayText with
    bf := ⟨.valid, bfKeySchedule bfKey⟩
    gost := ⟨.valid, gostKeySchedule gostKey⟩
    tw := ⟨.valid, twKeySchedule twKey⟩ }

theorem loaded_inv (src len dst iva : Word) : (loaded src len dst iva).Inv where
  mem_wf := by simp only [loaded, args, memWrite]; decide +kernel
  mem_admitted := by
    have h : ∀ c ∈ (State.reset.mem.writeBytes 0x2000 wayText), memAdmit State.reset c.1 = true := by decide +kernel
    exact h
  bf_valid := fun _ => ⟨bfKey, by decide, by decide, rfl⟩
  gost_valid := fun _ => ⟨gostKey, by decide, rfl⟩
  tw_valid := fun _ => ⟨twKey, by decide, rfl⟩
  bf_failed := fun h => by cases h
  gost_failed := fun h => by cases h
  tw_failed := fun h => by cases h
  outlen_zero := fun _ => rfl

/-- `State.reset` with accesses to come. -/
def waiting (l : List HostAccess) : State := { State.reset with pending := l }

theorem witness_DecodeAndEncodeAgree : decode 0x28#32 = .command .twCbcd := by decide

/-- The first clause on a boundary word, the second through `withFetchWord`. -/
theorem witness_StepRunsTheDecodedCommand :
    (waiting [.write 4 0 0x28#32, .reset]).pending = .write 4 0 0x28#32 :: [.reset] ∧
    decode 0x28#32 = .command .twCbcd ∧ decode (BitVec.ofNat 32 (0x01 % 2 ^ 32)) = .command .bfKeyset := by decide +kernel

/-- One word for each of the four kinds of illegal word, at the ends of their ranges. -/
theorem witness_IllegalWordChangesOnlyTheStatus :
    (waiting [.write 4 0 0x40#32]).pending = .write 4 0 0x40#32 :: [] ∧
    (0x40#32 : Word) >>> 6 ≠ 0#32 ∧ ((0x31#32 : Word) >>> 4) &&& 3#32 = 3#32 ∧
    ((0x20#32 : Word) &&& 15#32).toNat = 0 ∧ 9 ≤ ((0x09#32 : Word) &&& 15#32).toNat ∧
    9 ≤ ((0x2F#32 : Word) &&& 15#32).toNat := by decide +kernel

theorem witness_ArgumentRegistersArePlainStorage :
    (waiting [.write 4 0x08 0xFFFFFFFF#32, .read 4 0x08]).pending = .write 4 0x08 0xFFFFFFFF#32 :: .read 4 0x08 :: [] ∧
    (waiting [.write 4 0x0C 0#32, .read 4 0x0C]).pending = .write 4 0x0C 0#32 :: .read 4 0x0C :: [] ∧
    (waiting [.write 4 0x10 1#32, .read 4 0x10]).pending = .write 4 0x10 1#32 :: .read 4 0x10 :: [] ∧
    (waiting [.write 4 0x14 1#32, .read 4 0x14]).pending = .write 4 0x14 1#32 :: .read 4 0x14 :: [] ∧
    ∃ t, exec .twEcbe (loaded 0x2000#32 5#32 0x3000#32 7#32) = .next t :=
  ⟨rfl, rfl, rfl, rfl, _, rfl⟩

theorem witness_StatusReadsItsFields : (waiting [.read 4 0x04]).pending = .read 4 0x04 :: [] := rfl

/-- Reads at 0x00, 0x18, 0x1C and 0x3C, ignored writes at 0x04, 0x18 and 0x3C, and the refused accesses: a half word, a
misaligned word, and the first offset past the window. -/
theorem witness_HostAccessRules :
    (∀ o, (waiting [.read 4 o]).pending = .read 4 o :: []) ∧
    (∀ w o, (waiting [.write w o 1#32]).pending = .write w o 1#32 :: []) ∧
    (0x00 % 4 = 0 ∧ 0x18 % 4 = 0 ∧ 0x1C % 4 = 0 ∧ 0x3C % 4 = 0 ∧ 0x3C ≤ 0x3C ∧ 0x1C ≤ 0x1C ∧ 0x18 ≤ 0x18) ∧
    (2 ≠ 4 ∧ 0x0A % 4 ≠ 0 ∧ 0x3C < 0x40) := ⟨fun _ => rfl, fun _ _ => rfl, by decide, by decide⟩

theorem witness_ResetClearsRegistersAndKeepsMemory : (waiting [.reset]).pending = .reset :: [] := rfl

/-- The last byte of the address space exists; the one after it does not. -/
theorem witness_HostMemoryWriteStoresItsBytes :
    (waiting [.mem 0xFFFFFFFF#32 [1#8]]).mem.wf = true ∧
    rangeOk (waiting [.mem 0xFFFFFFFF#32 [1#8]]) (0xFFFFFFFF#32 : Word).toNat [1#8].length = true ∧
    rangeOk (waiting [.mem 0xFFFFFFFF#32 [1#8, 2#8]]) (0xFFFFFFFF#32 : Word).toNat [1#8, 2#8].length = false := by
  decide +kernel

/-- Every clause's list of accesses can be the one to come. -/
theorem witness_PseudoInstructionsExpand (p : Pseudo) :
    (waiting (p.expand.map HostLine.access ++ [])).pending = p.expand.map HostLine.access ++ [] := rfl

theorem witness_MemWriteThenMemRead : (args 0#32 0#32 0#32 0#32 wayText).mem.wf = true := by decide +kernel

/-- An address left out, beside a step that is taken. -/
theorem witness_UnadmittedBytesAreNeverWritten :
    ∃ t, step { waiting [.write 4 0 0x02#32] with holes := [⟨0x8000, 0xFFFF8000⟩] } = .next t ∧
      memAdmit { waiting [.write 4 0 0x02#32] with holes := [⟨0x8000, 0xFFFF8000⟩] } 0x8000 = false ∧
      memAdmit { waiting [.write 4 0 0x02#32] with holes := [⟨0x8000, 0xFFFF8000⟩] } 0x7FFF = true :=
  ⟨_, rfl, by decide +kernel, by decide +kernel⟩

/-- A state that meets the invariant with every slot VALID, and a step from it. -/
theorem witness_EveryStepKeepsTheInvariant :
    (loaded 0x2000#32 5#32 0x3000#32 0#32).Inv ∧ ∃ t, step (loaded 0x2000#32 5#32 0x3000#32 0#32) = .next t :=
  ⟨loaded_inv _ _ _ _, _, rfl⟩

theorem witness_EventHistoryIsNeverCleared : ∃ t, step (waiting [.write 4 0 0x02#32]) = .next t := ⟨_, rfl⟩

/-- A non-KEYSET error, and each KEYSET with a length it rejects. -/
theorem witness_ErrorsChangeOnlyTheStatus :
    (∃ t, exec .bfEncb State.reset = .next t ∧ t.code ≠ .ok) ∧ (∃ t, exec .bfKeyset State.reset = .next t ∧ t.code ≠ .ok) ∧
    (∃ t, exec .gostKeyset State.reset = .next t ∧ t.code ≠ .ok) ∧
    ∃ t, exec .twKeyset State.reset = .next t ∧ t.code ≠ .ok :=
  ⟨⟨_, rfl, by decide +kernel⟩, ⟨_, rfl, by decide +kernel⟩, ⟨_, rfl, by decide +kernel⟩, ⟨_, rfl, by decide +kernel⟩⟩

/-- SRC null with data, and SRC given with no data, on every engine's VALID slot. -/
theorem witness_NullOrEmptyDataEndsEmpty (e : Engine) :
    (loaded 0#32 5#32 0#32 0#32).ks e = .valid ∧ (loaded 0#32 5#32 0#32 0#32).src = 0#32 ∧
    (loaded 0x2000#32 0#32 0#32 0#32).ks e = .valid ∧ (loaded 0x2000#32 0#32 0#32 0#32).len = 0#32 := by
  cases e <;> exact ⟨rfl, rfl, rfl, rfl⟩

theorem witness_CommandsKeepToTheirOwnSlot :
    (∃ t, exec .bfKeyset State.reset = .next t) ∧ (∃ t, exec .gostKeyset State.reset = .next t) ∧
    ∃ t, exec .twKeyset State.reset = .next t := ⟨⟨_, rfl⟩, ⟨_, rfl⟩, ⟨_, rfl⟩⟩

/-- One slot VALID with its own schedule, the other two EMPTY with storage that differs from the state's. -/
theorem witness_UnloadedStorageIsNeverRead :
    (∃ t, exec .twEncb (withTw State.reset) = .next t) ∧ (withTw State.reset).tw.ks = .valid ∧
    (withTw State.reset).bf.ks ≠ .valid ∧ (withTw State.reset).gost.ks ≠ .valid :=
  ⟨⟨_, rfl⟩, rfl, by decide +kernel, by decide +kernel⟩

/-- A CBCE that ends OK with a generated IV, and one that ends EMPTY. -/
theorem witness_EntropyIsDrawnOnlyForGeneratedIvs :
    (∃ t, exec .twCbce (loaded 0x2000#32 5#32 0x3000#32 0#32) = .next t ∧ t.code = .ok) ∧
    ∃ t, exec .twCbce (loaded 0x2000#32 0#32 0x3000#32 0#32) = .next t ∧ t.code ≠ .ok :=
  ⟨⟨_, rfl, by decide +kernel⟩, ⟨_, rfl, by decide +kernel⟩⟩

/-- The last byte of a 12-byte IV, under a CBCE that ends OK. -/
theorem witness_SuppliedIvIsNeverWritten :
    (loaded 0x2000#32 5#32 0x3000#32 0x2800#32).mem.wf = true ∧ 11 < blockLen Instr.twCbce.engine ∧
    ∃ t, exec .twCbce (loaded 0x2000#32 5#32 0x3000#32 0x2800#32) = .next t ∧ t.code = .ok :=
  ⟨(loaded_inv _ _ _ _).mem_wf, by decide, _, rfl, by decide +kernel⟩

/-- LEN 3 and 57, a range past the end at LEN 4, and LEN 4 and 56 with the key in memory. -/
theorem witness_BfKeysetLoadsOrFails :
    ((args 0#32 3#32 0#32 0#32 []).len.toNat < 4 ∧ 56 < (args 0#32 57#32 0#32 0#32 []).len.toNat) ∧
    (4 ≤ (args 0xFFFFFFFD#32 4#32 0#32 0#32 []).len.toNat ∧
      rangeOk (args 0xFFFFFFFD#32 4#32 0#32 0#32 []) 0xFFFFFFFD 4 = false) ∧
    (rangeOk (args 0xFFFFFFFC#32 4#32 0#32 0#32 []) 0xFFFFFFFC 4 = true ∧
      (args 0x2000#32 56#32 0#32 0#32 []).len.toNat ≤ 56 ∧
      rangeOk (args 0x2000#32 56#32 0#32 0#32 []) 0x2000 56 = true) := by decide +kernel

theorem witness_GostKeysetLoadsOrFails :
    ((args 0#32 31#32 0#32 0#32 []).len.toNat ≠ 32 ∧ (args 0#32 33#32 0#32 0#32 []).len.toNat ≠ 32) ∧
    ((args 0xFFFFFFE1#32 32#32 0#32 0#32 []).len.toNat = 32 ∧
      rangeOk (args 0xFFFFFFE1#32 32#32 0#32 0#32 []) 0xFFFFFFE1 32 = false) ∧
    rangeOk (args 0xFFFFFFE0#32 32#32 0#32 0#32 []) 0xFFFFFFE0 32 = true := by decide +kernel

theorem witness_TwKeysetLoadsOrFails :
    ((args 0#32 11#32 0#32 0#32 []).len.toNat ≠ 12 ∧ (args 0#32 13#32 0#32 0#32 []).len.toNat ≠ 12) ∧
    ((args 0xFFFFFFF5#32 12#32 0#32 0#32 []).len.toNat = 12 ∧
      rangeOk (args 0xFFFFFFF5#32 12#32 0#32 0#32 []) 0xFFFFFFF5 12 = false) ∧
    rangeOk (args 0xFFFFFFF4#32 12#32 0#32 0#32 []) 0xFFFFFFF4 12 = true := by decide +kernel

/-- Zero tables agree with the wiped schedule. -/
theorem witness_BlowfishRoundsFollowTheRules :
    Spec.BfTables.agrees { p := fun _ => 0#32, s := fun _ _ => 0#32 } BfSchedule.zero := by
  constructor
  · intro i
    simp [BfSchedule.zero, Vector.get]
  · intro b i
    simp [BfSchedule.zero, Vector.get]

/-- The shortest and the longest key. -/
theorem witness_BlowfishKeyScheduleFollowsTheRule :
    (4 ≤ (List.replicate 4 (0xFF#8 : Byte)).length ∧ (List.replicate 4 (0xFF#8 : Byte)).length ≤ 56) ∧
    (4 ≤ (List.replicate 56 (0xFF#8 : Byte)).length ∧ (List.replicate 56 (0xFF#8 : Byte)).length ≤ 56) := by decide

/-- Keys of 4 and 8 bytes with the same words, and the longest K for which K ++ K is accepted. -/
theorem witness_EqualKeyWordsGiveEqualSchedules :
    (∀ i, i < 18 → bfKeyWord (List.replicate 4 0#8) i = bfKeyWord (List.replicate 8 0#8) i) ∧
    4 ≤ (List.replicate 28 (1#8 : Byte)).length ∧
    (List.replicate 28 (1#8 : Byte) ++ List.replicate 28 1#8).length ≤ 56 := by decide +kernel

theorem witness_GostKeyScheduleFollowsTheRules : gostKey.length = 32 := by decide

/-- One byte short of a block, a whole block, and one byte more. -/
theorem witness_PadAppendsTheMarkerAndZeros :
    (1 ≤ [1#8, 2#8, 3#8, 4#8, 5#8, 6#8, 7#8].length ∧ [1#8, 2#8, 3#8, 4#8, 5#8, 6#8, 7#8].length % 8 ≠ 0) ∧
    twPlain.length % 12 = 0 ∧ (1 ≤ [1#8].length ∧ [1#8].length % 12 ≠ 0) := by decide

/-- In place at the top of the address space, and side by side. -/
theorem witness_BlowfishBlockCommandsTransformOneBlock :
    (args 0xFFFFFFF8#32 0#32 0xFFFFFFF8#32 0#32 []).mem.wf = true ∧
    (withBf (args 0xFFFFFFF8#32 0#32 0xFFFFFFF8#32 0#32 [])).bf.ks = .valid ∧
    rangeOk (withBf (args 0xFFFFFFF8#32 0#32 0xFFFFFFF8#32 0#32 [])) 0xFFFFFFF8 8 = true ∧
    rangeOk (withBf (args 0x2000#32 0#32 0x2008#32 0#32 [])) 0x2008 8 = true ∧ disjoint 0x2000 8 0x2008 8 :=
  ⟨by decide +kernel, rfl, by decide +kernel, by decide +kernel, disjoint_of (by decide)⟩

theorem witness_GostBlockCommandsTransformOneBlock :
    (args 0xFFFFFFF8#32 0#32 0xFFFFFFF8#32 0#32 []).mem.wf = true ∧
    (withGost (args 0xFFFFFFF8#32 0#32 0xFFFFFFF8#32 0#32 [])).gost.ks = .valid ∧
    rangeOk (withGost (args 0xFFFFFFF8#32 0#32 0xFFFFFFF8#32 0#32 [])) 0xFFFFFFF8 8 = true ∧
    rangeOk (withGost (args 0x2000#32 0#32 0x2008#32 0#32 [])) 0x2008 8 = true ∧ disjoint 0x2000 8 0x2008 8 :=
  ⟨by decide +kernel, rfl, by decide +kernel, by decide +kernel, disjoint_of (by decide)⟩

theorem witness_ThreeWayBlockCommandsTransformOneBlock :
    (args 0xFFFFFFF4#32 0#32 0xFFFFFFF4#32 0#32 []).mem.wf = true ∧
    (withTw (args 0xFFFFFFF4#32 0#32 0xFFFFFFF4#32 0#32 [])).tw.ks = .valid ∧
    rangeOk (withTw (args 0xFFFFFFF4#32 0#32 0xFFFFFFF4#32 0#32 [])) 0xFFFFFFF4 12 = true ∧
    rangeOk (withTw (args 0x2000#32 0#32 0x200C#32 0#32 [])) 0x200C 12 = true ∧ disjoint 0x2000 12 0x200C 12 :=
  ⟨by decide +kernel, rfl, by decide +kernel, by decide +kernel, disjoint_of (by decide)⟩

/-- One byte of data, the output ending at the end of the address space, on every engine. -/
theorem witness_EcbEncryptTransformsEveryBlock (e : Engine) :
    let s := loaded 0x2000#32 1#32 (BitVec.ofNat 32 (2 ^ 32 - blockLen e)) 0#32
    s.mem.wf = true ∧ s.ks e = .valid ∧ s.src ≠ 0#32 ∧ s.len.toNat ≠ 0 ∧ rangeOk s s.src.toNat s.len.toNat = true ∧
    rangeOk s s.dst.toNat (paddedLen s.len.toNat (blockLen e)) = true ∧
    disjoint s.dst.toNat (paddedLen s.len.toNat (blockLen e)) s.src.toNat s.len.toNat := by
  refine ⟨(loaded_inv _ _ _ _).mem_wf, ?_, ?_, ?_, ?_, ?_, disjoint_of ?_⟩ <;> cases e <;> decide +kernel

/-- One block, the output next to the input. -/
theorem witness_EcbDecryptTransformsEveryBlock (e : Engine) :
    let s := loaded 0x2000#32 (BitVec.ofNat 32 (blockLen e)) (BitVec.ofNat 32 (0x2000 + blockLen e)) 0#32
    s.mem.wf = true ∧ s.ks e = .valid ∧ s.src ≠ 0#32 ∧ s.len.toNat ≠ 0 ∧ s.len.toNat % blockLen e = 0 ∧
    rangeOk s s.src.toNat s.len.toNat = true ∧ rangeOk s s.dst.toNat s.len.toNat = true ∧
    disjoint s.dst.toNat s.len.toNat s.src.toNat s.len.toNat := by
  refine ⟨(loaded_inv _ _ _ _).mem_wf, ?_, ?_, ?_, ?_, ?_, ?_, disjoint_of ?_⟩ <;> cases e <;> decide +kernel

/-- A generated IV. -/
theorem witness_CbcEncryptGenerated (e : Engine) :
    let s := loaded 0x2000#32 5#32 0x3000#32 0#32
    s.mem.wf = true ∧ s.ks e = .valid ∧ s.src ≠ 0#32 ∧ s.len.toNat ≠ 0 ∧ rangeOk s s.src.toNat s.len.toNat = true ∧
    rangeOk s s.dst.toNat (paddedLen s.len.toNat (blockLen e) + blockLen e) = true ∧ s.iva = 0#32 ∧
    disjoint s.dst.toNat (paddedLen s.len.toNat (blockLen e) + blockLen e) s.src.toNat s.len.toNat := by
  refine ⟨(loaded_inv _ _ _ _).mem_wf, ?_, ?_, ?_, ?_, ?_, ?_, disjoint_of ?_⟩ <;> cases e <;> decide +kernel

/-- A supplied IV that lies over the source, which is allowed (20_memory.md R60). -/
theorem witness_CbcEncryptChainsEveryBlock (e : Engine) :
    let s := loaded 0x2000#32 5#32 0x3000#32 0x2001#32
    s.mem.wf = true ∧ s.ks e = .valid ∧ s.src ≠ 0#32 ∧ s.len.toNat ≠ 0 ∧ rangeOk s s.src.toNat s.len.toNat = true ∧
    rangeOk s s.dst.toNat (paddedLen s.len.toNat (blockLen e) + blockLen e) = true ∧ s.iva ≠ 0#32 ∧
    rangeOk s s.iva.toNat (blockLen e) = true ∧
    disjoint s.dst.toNat (paddedLen s.len.toNat (blockLen e) + blockLen e) s.src.toNat s.len.toNat ∧
    disjoint s.dst.toNat (paddedLen s.len.toNat (blockLen e) + blockLen e) s.iva.toNat (blockLen e) := by
  refine ⟨(loaded_inv _ _ _ _).mem_wf, ?_, ?_, ?_, ?_, ?_, ?_, ?_, disjoint_of ?_, disjoint_of ?_⟩ <;> cases e <;>
    decide +kernel

/-- Two blocks: the IV and one block of ciphertext. -/
theorem witness_CbcDecryptUnchainsEveryBlock (e : Engine) :
    let s := loaded 0x2000#32 (BitVec.ofNat 32 (2 * blockLen e)) 0x3000#32 0#32
    s.mem.wf = true ∧ s.ks e = .valid ∧ s.src ≠ 0#32 ∧ blockLen e ≤ s.len.toNat ∧ s.len.toNat % blockLen e = 0 ∧
    rangeOk s s.src.toNat s.len.toNat = true ∧ rangeOk s s.dst.toNat (s.len.toNat - blockLen e) = true ∧
    disjoint s.dst.toNat (s.len.toNat - blockLen e) s.src.toNat s.len.toNat := by
  refine ⟨(loaded_inv _ _ _ _).mem_wf, ?_, ?_, ?_, ?_, ?_, ?_, disjoint_of ?_⟩ <;> cases e <;> decide +kernel

/-- The IV alone for CBCD, and one all-zero IV under which CBCE and ECBE both end OK. -/
theorem witness_CbcCornerCases :
    (let s := loaded 0x2000#32 12#32 0#32 0#32;
      s.ks .tw = .valid ∧ s.src ≠ 0#32 ∧ s.len.toNat = blockLen .tw ∧ rangeOk s s.src.toNat (blockLen .tw) = true) ∧
    (let s := loaded 0x2000#32 5#32 0x3000#32 0x2800#32;
      (∃ t, exec (.make .tw .cbce) s = .next t ∧ t.code = .ok) ∧
      (∃ u, exec (.make .tw .ecbe) s = .next u ∧ u.code = .ok) ∧ s.iva ≠ 0#32 ∧
      ∀ x, x < 12 → s.mem.read (s.iva.toNat + x) = 0#8) :=
  ⟨by decide +kernel, ⟨_, rfl, by decide +kernel⟩, ⟨_, rfl, by decide +kernel⟩, by decide +kernel, by decide +kernel⟩

/-- ECBE and then ECBD of its output, both OK, from a state that meets the invariant: five bytes, which no block length
divides. -/
theorem witness_EcbRoundTripRecoversThePlaintext :
    (loaded 0x2000#32 5#32 0x3000#32 0#32).Inv ∧
    ∃ t v, exec (.make .tw .ecbe) (loaded 0x2000#32 5#32 0x3000#32 0#32) = .next t ∧ t.code = .ok ∧
      exec (.make .tw .ecbd) { t with src := t.dst, len := t.outlen, dst := 0x4000#32 } = .next v ∧ v.code = .ok :=
  ⟨loaded_inv _ _ _ _, _, _, rfl, by decide +kernel, rfl, by decide +kernel⟩

/-- The same with whole blocks: 12 bytes that end in a marker and zeros, and 12 bytes with none. -/
theorem witness_EcbRoundTripWholeBlocks :
    (∃ t v, exec (.make .tw .ecbe) (loaded 0x2000#32 12#32 0x3000#32 0#32) = .next t ∧ t.code = .ok ∧
      exec (.make .tw .ecbd) { t with src := t.dst, len := t.outlen, dst := 0x4000#32 } = .next v ∧ v.code = .ok) ∧
    paddingIndex (memRead (loaded 0x2000#32 12#32 0x3000#32 0#32) 0x2000#32 12) = none ∧
    paddingIndex (memRead (args 0x2000#32 12#32 0x3000#32 0#32 (wayText ++ [0x80#8])) 0x2000#32 12) = some 5 :=
  ⟨⟨_, _, rfl, by decide +kernel, rfl, by decide +kernel⟩, by decide +kernel, by decide +kernel⟩

/-- CBCE with a generated IV and with a supplied one, and CBCD of its output, all OK. -/
theorem witness_CbcRoundTripRecoversThePlaintext :
    (∃ t v, exec (.make .tw .cbce) (loaded 0x2000#32 5#32 0x3000#32 0#32) = .next t ∧ t.code = .ok ∧
      exec (.make .tw .cbcd) { t with src := t.dst, len := t.outlen, dst := 0x4000#32 } = .next v ∧ v.code = .ok) ∧
    ∃ t v, exec (.make .tw .cbce) (loaded 0x2000#32 12#32 0x3000#32 0x2800#32) = .next t ∧ t.code = .ok ∧
      exec (.make .tw .cbcd) { t with src := t.dst, len := t.outlen, dst := 0x4000#32 } = .next v ∧ v.code = .ok :=
  ⟨⟨_, _, rfl, by decide +kernel, rfl, by decide +kernel⟩, ⟨_, _, rfl, by decide +kernel, rfl, by decide +kernel⟩⟩

/-- Two memories that differ at an address left out and nowhere else. -/
theorem witness_UnadmittedBytesAreNeverRead :
    Memory.wf [] = true ∧ Memory.wf [(0x8000, 1#8)] = true ∧
    memAdmit { State.reset with holes := [⟨0x8000, 1⟩] } 0x8000 = false ∧
    (∀ a, memAdmit { State.reset with holes := [⟨0x8000, 1⟩] } a = true →
      Memory.read [(0x8000, 1#8)] a = Memory.read [] a) ∧
    ∃ t, exec .bfEncb { State.reset with holes := [⟨0x8000, 1⟩] } = .next t := by
  refine ⟨by decide, by decide, by decide +kernel, fun a h => ?_, _, rfl⟩
  have hne : a ≠ 0x8000 := by
    rintro rfl
    revert h
    decide +kernel
  simp [Memory.read, hne]

/-- A source one byte past the end, a destination past it, and the longest LEN at DST = 0 with a source that fits. -/
theorem witness_EcbLengthLimitsGiveBus :
    (let s := loaded 2#32 0xFFFFFFFF#32 0#32 0#32;
      s.ks .tw = .valid ∧ s.src ≠ 0#32 ∧ s.len ≠ 0#32 ∧ 2 ^ 32 < s.src.toNat + s.len.toNat) ∧
    (let s := loaded 0x2000#32 1#32 0xFFFFFFF5#32 0#32;
      s.ks .tw = .valid ∧ s.src ≠ 0#32 ∧ s.len ≠ 0#32 ∧ 2 ^ 32 < s.dst.toNat + paddedLen s.len.toNat (blockLen .tw)) ∧
    (let s := loaded 1#32 0xFFFFFFFF#32 0#32 0#32;
      s.ks .gost = .valid ∧ s.src ≠ 0#32 ∧ s.len = 0xFFFFFFFF#32 ∧ blockLen .gost = 8 ∧
      s.src.toNat + s.len.toNat ≤ 2 ^ 32) := by decide +kernel

end Sys2Proof.Tests
end

/-! ## Proofs for the family 10_state.md: what one command, one access and one step do to the machine's state -/

namespace Sys2Proof.Machine

/-! ### A command is its checks and then one effect

Every command but KEYSET and WIPE has one shape: it raises the code its checks answer, or it stores one byte string at
DST. `exec_data` says so once for the six operations; `exec_keyset` and `exec_wipe` are the other two. -/

@[simp] theorem afterDraw_zero (s : State) : s.afterDraw 0 = s := rfl

/-- The operation works on data: it is neither KEYSET nor WIPE (30_encoding.md R72). -/
def onData (o : Op) : Prop := o ≠ .keyset ∧ o ≠ .wipe

/-- The checks of an operation (60_exceptions.md R303); KEYSET's depend on its engine and are `keyChecks`. -/
def dataChecks (o : Op) (e : Engine) (s : State) : Option StatusCode :=
  match o with
  | .encb | .decb => blockChecks e s
  | .ecbe => ecbeChecks e s
  | .ecbd => ecbdChecks e s
  | .cbce => cbceChecks e s
  | .cbcd => cbcdChecks e s
  | .keyset | .wipe => none

/-- The byte string an operation that passes its checks stores at DST; KEYSET and WIPE store none. -/
def storedBytes (o : Op) (e : Engine) (s : State) : List Byte :=
  match o with
  | .encb => encBlock e s (memRead s s.src (blockLen e))
  | .decb => decBlock e s (memRead s s.src (blockLen e))
  | .ecbe => ecbMap (encBlock e s) (blockLen e) (pad (memRead s s.src s.len.toNat) (blockLen e))
  | .ecbd => ecbMap (decBlock e s) (blockLen e) (memRead s s.src s.len.toNat)
  | .cbce => cbcIv e s ++
      cbcEncrypt (encBlock e s) (cbcIv e s) (toBlocks (blockLen e) (pad (memRead s s.src s.len.toNat) (blockLen e)))
  | .cbcd => cbcDecrypt (decBlock e s) ((memRead s s.src s.len.toNat).take (blockLen e))
      (toBlocks (blockLen e) ((memRead s s.src s.len.toNat).drop (blockLen e)))
  | .keyset | .wipe => []

/-- The OUTLEN an operation reports with code OK; the decrypting modes trim the padding (40_byte_utilities.md R93). -/
def reportedLength (o : Op) (e : Engine) (s : State) : Nat :=
  match o with
  | .encb | .decb => blockLen e
  | .ecbe => paddedLen s.len.toNat (blockLen e)
  | .ecbd => trimLen (storedBytes .ecbd e s) s.len.toNat
  | .cbce => paddedLen s.len.toNat (blockLen e) + blockLen e
  | .cbcd => trimLen (storedBytes .cbcd e s) (s.len.toNat - blockLen e)
  | .keyset | .wipe => 0

/-- How many bytes an operation draws: one block for a CBCE that generates its IV (46_mode_cbc.md R271). -/
def drawCount (o : Op) (e : Engine) (s : State) : Nat :=
  if o = .cbce ∧ ivGenerated s = true then blockLen e else 0

/-- The state an operation on data ends in when its checks answer none. -/
def dataEffect (o : Op) (e : Engine) (s : State) : State :=
  (memWrite (s.afterDraw (drawCount o e s)) s.dst (storedBytes o e s)).finish .ok (reportedLength o e s)

/-- The state an operation on data ends in. -/
def dataCommand (o : Op) (e : Engine) (s : State) : State :=
  (dataChecks o e s).elim (dataEffect o e s) s.raise

theorem dataCommand_raise {o : Op} {e : Engine} {s : State} {c : StatusCode} (h : dataChecks o e s = some c) :
    dataCommand o e s = s.raise c := by simp [dataCommand, h]

theorem dataCommand_effect {o : Op} {e : Engine} {s : State} (h : dataChecks o e s = none) :
    dataCommand o e s = dataEffect o e s := by simp [dataCommand, h]

theorem blockEncrypt_eq (e : Engine) (s : State) : blockEncrypt e s = dataCommand .encb e s := by
  cases h : dataChecks .encb e s with
  | some c => rw [blockEncrypt_raise h, dataCommand_raise h]
  | none => rw [blockEncrypt_effect h, dataCommand_effect h]; rfl

theorem blockDecrypt_eq (e : Engine) (s : State) : blockDecrypt e s = dataCommand .decb e s := by
  cases h : dataChecks .decb e s with
  | some c => rw [blockDecrypt_raise h, dataCommand_raise h]
  | none => rw [blockDecrypt_effect h, dataCommand_effect h]; rfl

theorem modeEcbe_eq (e : Engine) (s : State) : modeEcbe e s = dataCommand .ecbe e s := by
  cases h : dataChecks .ecbe e s with
  | some c => rw [modeEcbe_raise h, dataCommand_raise h]
  | none => rw [modeEcbe_effect h, dataCommand_effect h]; rfl

theorem modeEcbd_eq (e : Engine) (s : State) : modeEcbd e s = dataCommand .ecbd e s := by
  cases h : dataChecks .ecbd e s with
  | some c => rw [modeEcbd_raise h, dataCommand_raise h]
  | none => rw [modeEcbd_effect h, dataCommand_effect h]; rfl

theorem modeCbce_eq (e : Engine) (s : State) : modeCbce e s = dataCommand .cbce e s := by
  cases h : dataChecks .cbce e s with
  | some c => rw [modeCbce_raise h, dataCommand_raise h]
  | none =>
    rw [dataCommand_effect h]
    cases hg : ivGenerated s with
    | true => simp [modeCbce_generated h hg, dataEffect, storedBytes, reportedLength, drawCount, cbcIv, hg]
    | false => simp [modeCbce_supplied h hg, dataEffect, storedBytes, reportedLength, drawCount, cbcIv, hg]

theorem modeCbcd_eq (e : Engine) (s : State) : modeCbcd e s = dataCommand .cbcd e s := by
  cases h : dataChecks .cbcd e s with
  | some c => rw [modeCbcd_raise h, dataCommand_raise h]
  | none => rw [modeCbcd_effect h _ rfl, dataCommand_effect h]; rfl

/-- A command on data, whichever of the six operations it is. -/
theorem exec_data {i : Instr} (h : onData i.op) (s : State) :
    exec i s = .next (dataCommand i.op i.engine s) := by
  obtain ⟨hk, hw⟩ := h
  cases ho : i.op with
  | keyset => exact absurd ho hk
  | wipe => exact absurd ho hw
  | encb => rw [exec_encb ho, blockEncrypt_eq]
  | decb => rw [exec_decb ho, blockDecrypt_eq]
  | ecbe => rw [exec_ecbe ho, modeEcbe_eq]
  | ecbd => rw [exec_ecbd ho, modeEcbd_eq]
  | cbce => rw [exec_cbce ho, modeCbce_eq]
  | cbcd => rw [exec_cbcd ho, modeCbcd_eq]

/-- The checks of a KEYSET with the key lengths its engine accepts (60_exceptions.md R303). -/
def keyChecks (e : Engine) (s : State) : Option StatusCode :=
  match e with
  | .bf => keysetChecks Config.bfKeyMin Config.bfKeyMax s
  | .gost => keysetChecks Config.gostKeyLen Config.gostKeyLen s
  | .tw => keysetChecks Config.twKeyLen Config.twKeyLen s

/-- Load the key at SRC into an engine's slot. -/
def loadKey : Engine → State → State
  | .bf => loadBf
  | .gost => loadGost
  | .tw => loadTw

theorem exec_keyset {i : Instr} (h : i.op = .keyset) (s : State) :
    exec i s = .next (keyset i.engine s (keyChecks i.engine s) (loadKey i.engine)) := by
  cases i with
  | bfKeyset | gostKeyset | twKeyset => rfl
  | _ => exact absurd h (by decide)

/-! ### Which codes the checks answer, and where the effect stores -/

/-- No check answers OK: every code a check answers ends the command early. -/
theorem dataChecks_ne_ok {o : Op} {e : Engine} {s : State} {c : StatusCode} (h : dataChecks o e s = some c) :
    c ≠ .ok := by
  rintro rfl
  cases o with
  | keyset | wipe => cases h
  | encb | decb => simpa using blockChecks_codes h
  | ecbe => simpa using ecbeChecks_codes h
  | ecbd => simpa using ecbdChecks_codes h
  | cbce => simpa using cbceChecks_codes h
  | cbcd => simpa using cbcdChecks_codes h

theorem keyChecks_ne_ok {e : Engine} {s : State} {c : StatusCode} (h : keyChecks e s = some c) : c ≠ .ok := by
  rintro rfl
  cases e <;> simpa using keysetChecks_codes h

/-- An operation on data that passes its checks has a VALID key. -/
theorem ks_valid_of_dataChecks {o : Op} {e : Engine} {s : State} (ho : onData o) (h : dataChecks o e s = none) :
    s.ks e = .valid := by
  obtain ⟨hk, hw⟩ := ho
  cases o with
  | keyset => exact absurd rfl hk
  | wipe => exact absurd rfl hw
  | encb | decb => exact (blockChecks_none.1 h).1
  | ecbe => exact (ecbeChecks_none.1 h).1
  | ecbd => exact (ecbdChecks_none.1 h).1
  | cbce => exact (cbceChecks_none.1 h).1
  | cbcd => exact (cbcdChecks_none.1 h).1

/-- Every byte of a range that passes RangeOK is admitted (20_memory.md R53). -/
theorem memAdmit_of_rangeOk {s : State} {a n x : Nat} (h : rangeOk s a n = true) (hx : a ≤ x ∧ x < a + n) :
    memAdmit s x = true := by
  simp only [rangeOk, memAdmit, overlaps, Config.addrSpace, Bool.or_eq_true, Bool.and_eq_true, beq_iff_eq,
    List.all_eq_true, Bool.not_eq_true', decide_eq_true_eq, decide_eq_false_iff_not] at h ⊢
  obtain hn | ⟨hle, hall⟩ := h
  · omega
  · refine ⟨by omega, fun r hr => ?_⟩
    have := hall r hr
    omega

/-- The beginning of a range that passes RangeOK passes it too. -/
theorem rangeOk_mono {s : State} {a n m : Nat} (hm : m ≤ n) (h : rangeOk s a n = true) : rangeOk s a m = true := by
  simp only [rangeOk, overlaps, Config.addrSpace, Bool.or_eq_true, Bool.and_eq_true, beq_iff_eq,
    List.all_eq_true, Bool.not_eq_true', decide_eq_true_eq, decide_eq_false_iff_not] at h ⊢
  obtain hn | ⟨hle, hall⟩ := h
  · exact .inl (by omega)
  · refine .inr ⟨by omega, fun r hr => ?_⟩
    have := hall r hr
    omega

theorem ecbMap_length_le {f : List Byte → List Byte} {bs : Nat} (hf : ∀ b, (f b).length = bs) (w : List Byte) :
    (ecbMap f bs w).length ≤ w.length := by
  rw [ecbMap_length hf]
  exact Nat.mul_div_le _ _

theorem cbcEncrypt_toBlocks_length_le {f : List Byte → List Byte} {bs : Nat} (hf : ∀ b, (f b).length = bs)
    (fb w : List Byte) : (cbcEncrypt f fb (toBlocks bs w)).length ≤ w.length := by
  rw [cbcEncrypt_length hf, toBlocks_length]
  exact Nat.mul_div_le _ _

/-- CBC plaintext is at most one block per block of input. -/
theorem cbcDecrypt_length_le {f : List Byte → List Byte} {bs : Nat} (hf : ∀ b, (f b).length = bs) (fb : List Byte)
    (cs : List (List Byte)) : (cbcDecrypt f fb cs).length ≤ bs * cs.length := by
  induction cs generalizing fb with
  | nil => exact Nat.zero_le _
  | cons c cs ih =>
    have hx : (xorBytes (f c) fb).length ≤ bs := by
      rw [xorBytes, List.length_zipWith, hf]
      exact Nat.min_le_left _ _
    have := ih c
    simp only [cbcDecrypt, List.length_append, List.length_cons, Nat.mul_succ]
    omega

theorem cbcDecrypt_toBlocks_length_le {f : List Byte → List Byte} {bs : Nat} (hf : ∀ b, (f b).length = bs)
    (fb w : List Byte) : (cbcDecrypt f fb (toBlocks bs w)).length ≤ w.length :=
  calc (cbcDecrypt f fb (toBlocks bs w)).length
      ≤ bs * (toBlocks bs w).length := cbcDecrypt_length_le hf fb _
    _ = bs * (w.length / bs) := by rw [toBlocks_length]
    _ ≤ w.length := Nat.mul_div_le _ _

/-- What an operation that passes its checks stores lies in a range that passes RangeOK (20_memory.md R53, R58). -/
theorem rangeOk_storedBytes {o : Op} {e : Engine} {s : State} (h : dataChecks o e s = none) :
    rangeOk s s.dst.toNat (storedBytes o e s).length = true := by
  cases o with
  | keyset | wipe => simp [storedBytes, rangeOk]
  | encb | decb =>
    obtain ⟨-, -, hd, -⟩ := blockChecks_none.1 h
    simpa [storedBytes] using hd
  | ecbe =>
    obtain ⟨-, -, -, -, hd, -⟩ := ecbeChecks_none.1 h
    refine rangeOk_mono ?_ hd
    simpa [storedBytes] using ecbMap_length_le (encBlock_length e s) (pad (memRead s s.src s.len.toNat) (blockLen e))
  | ecbd =>
    obtain ⟨-, -, -, -, -, hd, -⟩ := ecbdChecks_none.1 h
    refine rangeOk_mono ?_ hd
    simpa [storedBytes] using ecbMap_length_le (decBlock_length e s) (memRead s s.src s.len.toNat)
  | cbce =>
    obtain ⟨-, -, -, -, hd, -⟩ := cbceChecks_none.1 h
    refine rangeOk_mono ?_ hd
    have := cbcEncrypt_toBlocks_length_le (encBlock_length e s) (cbcIv e s)
      (pad (memRead s s.src s.len.toNat) (blockLen e))
    simp only [storedBytes, List.length_append, cbcIv_length, pad_length, memRead_length] at this ⊢
    omega
  | cbcd =>
    obtain ⟨-, -, -, -, -, -, hd, -⟩ := cbcdChecks_none.1 h
    refine rangeOk_mono ?_ hd
    simpa [storedBytes] using cbcDecrypt_toBlocks_length_le (decBlock_length e s)
      ((memRead s s.src s.len.toNat).take (blockLen e)) ((memRead s s.src s.len.toNat).drop (blockLen e))

/-! ### What a command can do -/

/-- The effects a command can have on a state: the inversion of `exec`, said once for all 24 commands. -/
inductive CommandEffect (e : Engine) (s : State) : State → Prop
  /-- The checks of an operation on data answer a code. -/
  | raised (c : StatusCode) (hc : c ≠ .ok) : CommandEffect e s (s.raise c)
  /-- An operation on data stores its bytes, after drawing `k` bytes. -/
  | stored (k n : Nat) (bytes : List Byte) (hr : rangeOk s s.dst.toNat bytes.length = true) :
      CommandEffect e s ((memWrite (s.afterDraw k) s.dst bytes).finish .ok n)
  /-- WIPE. -/
  | wiped : CommandEffect e s ((s.wipeSlot .empty e).finish .ok 0)
  /-- A KEYSET that fails. -/
  | failed (c : StatusCode) (hc : c ≠ .ok) : CommandEffect e s ((s.wipeSlot .failed e).raise c)
  /-- A KEYSET that loads a key. -/
  | loaded (hk : keyChecks e s = none) : CommandEffect e s ((loadKey e s).finish .ok 0)

theorem dataCommand_commandEffect (o : Op) (e : Engine) (s : State) : CommandEffect e s (dataCommand o e s) := by
  cases h : dataChecks o e s with
  | some c => rw [dataCommand_raise h]; exact .raised c (dataChecks_ne_ok h)
  | none => rw [dataCommand_effect h]; exact .stored _ _ _ (rangeOk_storedBytes h)

theorem keyset_commandEffect (e : Engine) (s : State) :
    CommandEffect e s (keyset e s (keyChecks e s) (loadKey e)) := by
  cases h : keyChecks e s with
  | some c => rw [keyset_raise rfl]; exact .failed c (keyChecks_ne_ok h)
  | none => rw [keyset_effect rfl]; exact .loaded h

/-- The next state of a command is one of its effects. -/
theorem exec_commandEffect {i : Instr} {s t : State} (h : exec i s = .next t) : CommandEffect i.engine s t := by
  by_cases hk : i.op = .keyset
  · rw [exec_keyset hk] at h
    cases h
    exact keyset_commandEffect _ _
  by_cases hw : i.op = .wipe
  · rw [exec_wipe hw] at h
    cases h
    exact .wiped
  · rw [exec_data ⟨hk, hw⟩] at h
    cases h
    exact dataCommand_commandEffect _ _ _

/-! ### The invariant, one rule per state operation -/

theorem inv_finish {s : State} {c : StatusCode} {n : Nat} (h : s.Inv) (hn : c ≠ .ok → n = 0) : (s.finish c n).Inv :=
  { h with outlen_zero := fun hc => by simp [hn hc] }

theorem inv_raise {s : State} (h : s.Inv) (c : StatusCode) : (s.raise c).Inv := inv_finish h fun _ => rfl

theorem inv_afterDraw {s : State} (h : s.Inv) (n : Nat) : (s.afterDraw n).Inv := { h with }

theorem inv_memWrite {s : State} {a : Word} {bytes : List Byte} (h : s.Inv)
    (hr : rangeOk s a.toNat bytes.length = true) : (memWrite s a bytes).Inv :=
  { h with
    mem_wf := Memory.writeBytes_wf h.mem_wf _ _
    mem_admitted := fun c hc => by
      obtain hold | hnew := Memory.writeBytes_keys hc
      · exact h.mem_admitted c hold
      · exact memAdmit_of_rangeOk hr hnew }

/-- Wiping a slot keeps the invariant, since the slot is not VALID afterwards. -/
theorem inv_wipeSlot {s : State} {k : KeyState} (h : s.Inv) (hk : k ≠ .valid) (e : Engine) : (s.wipeSlot k e).Inv := by
  cases e with
  | bf => exact { h with bf_valid := fun hv => absurd hv hk, bf_failed := fun _ => rfl }
  | gost => exact { h with gost_valid := fun hv => absurd hv hk, gost_failed := fun _ => rfl }
  | tw => exact { h with tw_valid := fun hv => absurd hv hk, tw_failed := fun _ => rfl }

/-- A KEYSET that passes its checks loads the schedule of a key of an accepted length. -/
theorem inv_loadKey {e : Engine} {s : State} (h : s.Inv) (hk : keyChecks e s = none) : (loadKey e s).Inv := by
  cases e with
  | bf =>
    obtain ⟨⟨hlo, hhi⟩, -⟩ := keysetChecks_none.1 hk
    exact { h with
      bf_valid := fun _ => ⟨memRead s s.src s.len.toNat, by simpa using hlo, by simpa using hhi, rfl⟩
      bf_failed := fun hf => by cases hf }
  | gost =>
    exact { h with
      gost_valid := fun _ => ⟨memRead s s.src Config.gostKeyLen, memRead_length _ _ _, rfl⟩
      gost_failed := fun hf => by cases hf }
  | tw =>
    exact { h with
      tw_valid := fun _ => ⟨memRead s s.src Config.twKeyLen, memRead_length _ _ _, rfl⟩
      tw_failed := fun hf => by cases hf }

theorem inv_afterReset {s : State} (h : s.Inv) : s.afterReset.Inv :=
  { mem_wf := h.mem_wf
    mem_admitted := h.mem_admitted
    bf_valid := fun hv => by cases hv
    gost_valid := fun hv => by cases hv
    tw_valid := fun hv => by cases hv
    bf_failed := fun hf => by cases hf
    gost_failed := fun hf => by cases hf
    tw_failed := fun hf => by cases hf
    outlen_zero := fun _ => rfl }

theorem inv_writeReg {s : State} (h : s.Inv) (o : Nat) (v : Word) : (writeReg s o v).Inv := by
  unfold writeReg
  split_ifs <;> exact { h with }

/-- Every effect of a command keeps the invariant. -/
theorem CommandEffect.inv {e : Engine} {s t : State} (h : s.Inv) (ht : CommandEffect e s t) : t.Inv := by
  cases ht with
  | raised c _ => exact inv_raise h c
  | stored k n bytes hr => exact inv_finish (inv_memWrite (inv_afterDraw h k) hr) (absurd rfl)
  | wiped => exact inv_finish (inv_wipeSlot h (by decide) e) (absurd rfl)
  | failed c _ => exact inv_raise (inv_wipeSlot h (by decide) e) c
  | loaded hk => exact inv_finish (inv_loadKey h hk) (absurd rfl)

theorem writeCmd_inv {s t : State} {v : Word} (h : s.Inv) (ht : writeCmd s v = .next t) : t.Inv := by
  obtain ⟨i, -, hi⟩ | ⟨w, -, rfl⟩ := writeCmd_cases ht
  · exact (exec_commandEffect hi).inv h
  · exact inv_raise h _

theorem hostAccess_inv {s t : State} {a : HostAccess} (h : s.Inv) (ht : hostAccess s a = .next t) : t.Inv := by
  obtain ⟨v, -, hv⟩ | ⟨o, v, -, -, rfl⟩ | ⟨o, -, rfl⟩ | ⟨x, bytes, -, hr, rfl⟩ | ⟨-, rfl⟩ := hostAccess_cases ht
  · exact writeCmd_inv h hv
  · exact inv_writeReg h o v
  · exact { h with }
  · exact inv_memWrite h hr
  · exact inv_afterReset h

/-- Settles O17, by the effects of the host's next access. -/
theorem everyStepKeepsTheInvariant : Obligations.EveryStepKeepsTheInvariant := by
  intro s t h ht
  obtain ⟨-, rfl⟩ | ⟨a, rest, -, ha⟩ := step_cases ht
  · exact h
  · exact hostAccess_inv (s := { s with pending := rest }) { h with } ha

/-- Settles O16: memory lists nothing, every slot is EMPTY and CODE is OK. -/
theorem resetStateMeetsTheInvariant : Obligations.ResetStateMeetsTheInvariant :=
  { mem_wf := reset_mem_wf
    mem_admitted := fun c hc => by cases hc
    bf_valid := fun hv => by cases hv
    gost_valid := fun hv => by cases hv
    tw_valid := fun hv => by cases hv
    bf_failed := fun hf => by cases hf
    gost_failed := fun hf => by cases hf
    tw_failed := fun hf => by cases hf
    outlen_zero := fun _ => rfl }

/-! ### Commands and the argument registers -/

theorem sameArguments_wipeSlot (s : State) (k : KeyState) (e : Engine) : sameArguments s (s.wipeSlot k e) := by
  cases e <;> exact ⟨rfl, rfl, rfl, rfl⟩

theorem sameArguments_loadKey (e : Engine) (s : State) : sameArguments s (loadKey e s) := by
  cases e <;> exact ⟨rfl, rfl, rfl, rfl⟩

/-- No effect of a command writes an argument register (10_state.md R24). -/
theorem CommandEffect.sameArguments {e : Engine} {s t : State} (ht : CommandEffect e s t) : sameArguments s t := by
  cases ht with
  | raised | stored => exact ⟨rfl, rfl, rfl, rfl⟩
  | wiped | failed => exact sameArguments_wipeSlot s _ e
  | loaded => exact sameArguments_loadKey e s

/-! ### Register accesses at the port -/

/-- A read inside the window observes the register and changes nothing else (10_state.md R23). -/
theorem step_readReg {s : State} {o : Nat} {rest : List HostAccess} (h : s.pending = .read 4 o :: rest)
    (ha : o % 4 = 0) (hw : o ≤ 0x3C) :
    step s = .next { s with observed := readReg s o :: s.observed, pending := rest } := by
  have hwf : wellFormedOffset 4 o = true := by simp [wellFormedOffset, ha, hw]
  rw [step_access h, hostAccess, if_pos hwf]
  rfl

/-- A CMD write performs `writeCmd` with that access taken off the list (10_state.md R22). -/
theorem step_writeCmd {s : State} {v : Word} {rest : List HostAccess} (h : s.pending = .write 4 0 v :: rest) :
    step s = writeCmd { s with pending := rest } v := by
  rw [step_access h]
  rfl

/-- An access of another width, a misaligned one and one outside the window are refused (10_state.md R28). -/
theorem step_refused {s : State} {width offset : Nat} {v : Word} {rest : List HostAccess}
    (h : s.pending = .read width offset :: rest ∨ s.pending = .write width offset v :: rest)
    (hw : wellFormedOffset width offset = false) : step s = .refused .hostAccess := by
  obtain h | h := h <;> simp [step_access h, hostAccess, hw]

theorem writeCmd_command {s : State} {v : Word} {i : Instr} (h : decode v = .command i) :
    writeCmd s v = exec i s := by simp [writeCmd, h]

/-- STATUS, OUTLEN and the reserved offsets ignore a write (10_state.md R25, R26, R28). -/
theorem writeReg_ignored {s : State} {o : Nat} (v : Word) (h : o = 0x04 ∨ 0x18 ≤ o) : writeReg s o v = s := by
  rw [writeReg, if_neg (by omega), if_neg (by omega), if_neg (by omega), if_neg (by omega)]

/-- CMD and the reserved offsets read 0 (10_state.md R27, R28). -/
theorem readReg_zero {s : State} {o : Nat} (h : o = 0 ∨ 0x1C ≤ o) : readReg s o = 0#32 := by
  rw [readReg, if_neg (by omega), if_neg (by omega), if_neg (by omega), if_neg (by omega), if_neg (by omega),
    if_neg (by omega)]

@[simp] theorem writeReg_pending (s : State) (o : Nat) (v : Word) : (writeReg s o v).pending = s.pending := by
  unfold writeReg
  split_ifs <;> rfl

/-- A register write and then a read of the same offset: the read observes the register as written. -/
theorem run_writeReg_readReg {s : State} {o : Nat} {v : Word} {rest : List HostAccess}
    (h : s.pending = .write 4 o v :: .read 4 o :: rest) (ha : o % 4 = 0) (hw : o ≤ 0x3C) (h0 : o ≠ 0) :
    Host.Core.run Sys2Proof.core 2 s =
      let t := writeReg { s with pending := .read 4 o :: rest } o v
      .next { t with observed := readReg t o :: t.observed, pending := rest } := by
  have hwrite : Sys2Proof.core.step s = .next _ := step_writeReg h ha hw h0
  have hread : Sys2Proof.core.step (writeReg { s with pending := .read 4 o :: rest } o v) = .next _ :=
    step_readReg (writeReg_pending _ o v) ha hw
  simp only [Host.Core.run, hwrite, hread]

/-- Settles O6, by the write and read rules of the port and by the effects of a command. -/
theorem argumentRegistersArePlainStorage : Obligations.ArgumentRegistersArePlainStorage := by
  refine ⟨fun s v rest => ⟨fun h => ?_, fun h => ?_, fun h => ?_, fun h => ?_⟩, fun i s t h => ?_⟩
  · exact run_writeReg_readReg h (by decide) (by decide) (by decide)
  · exact run_writeReg_readReg h (by decide) (by decide) (by decide)
  · exact run_writeReg_readReg h (by decide) (by decide) (by decide)
  · exact run_writeReg_readReg h (by decide) (by decide) (by decide)
  · exact (exec_commandEffect h).sameArguments

/-- Settles O8, by the read, ignored-write and refusal rules of the port. -/
theorem hostAccessRules : Obligations.HostAccessRules := by
  intro s width offset v rest
  refine ⟨fun h hwidth ha hw => ?_, fun h hwidth ha hw hign => ?_, fun h hbad => ?_⟩
  · subst hwidth
    exact ⟨_, step_readReg h ha hw, readReg_zero, fun ho => by subst ho; rfl⟩
  · subst hwidth
    rw [step_writeReg h ha hw (by omega), writeReg_ignored v hign]
  · refine step_refused h ?_
    simp only [wellFormedOffset, Bool.and_eq_false_iff, beq_eq_false_iff_ne, decide_eq_false_iff_not]
    omega

/-- Settles O4: both parts are a step whose access is a CMD write. -/
theorem stepRunsTheDecodedCommand : Obligations.StepRunsTheDecodedCommand := by
  refine ⟨fun s v rest i h hd => ?_, fun s w i hd => ?_⟩
  · rw [step_writeCmd h, writeCmd_command hd]
  · rw [step_writeCmd (withFetchWord_pending s 32 w), writeCmd_command hd]
    rfl

/-! ### The STATUS word -/

theorem StatusCode.number_lt (c : StatusCode) : c.number < 16 := by cases c <;> decide

theorem KeyState.number_lt (k : KeyState) : k.number < 4 := by cases k <;> decide

/-- A field placed above the bits of `x` adds its value at its bit position. -/
theorem toNat_or_shiftLeft (x : Word) {n k : Nat} (hx : x.toNat < 2 ^ k) (hn : n * 2 ^ k < 2 ^ 32) :
    (x ||| BitVec.ofNat 32 n <<< k).toNat = x.toNat + n * 2 ^ k := by
  have hn' : n < 2 ^ 32 := lt_of_le_of_lt (Nat.le_mul_of_pos_right n (by positivity)) hn
  rw [BitVec.toNat_or, BitVec.toNat_shiftLeft, BitVec.toNat_ofNat, Nat.mod_eq_of_lt hn', Nat.shiftLeft_eq,
    Nat.mod_eq_of_lt hn, ← Nat.shiftLeft_eq, Nat.or_comm, ← Nat.shiftLeft_add_eq_or_of_lt hx, Nat.shiftLeft_eq,
    Nat.add_comm]

/-- The fields of STATUS do not meet, so the word is their sum (10_state.md R25). -/
theorem statusWord_toNat (s : State) :
    (statusWord s).toNat =
      s.code.number + s.bf.ks.number * 2 ^ 8 + s.gost.ks.number * 2 ^ 10 + s.tw.ks.number * 2 ^ 12 := by
  have hc := s.code.number_lt
  have hb := s.bf.ks.number_lt
  have hg := s.gost.ks.number_lt
  have ht := s.tw.ks.number_lt
  have h0 : (BitVec.ofNat 32 s.code.number).toNat = s.code.number := Nat.mod_eq_of_lt (by omega)
  have h1 := toNat_or_shiftLeft (BitVec.ofNat 32 s.code.number) (n := s.bf.ks.number) (k := 8) (by omega) (by omega)
  have h2 := toNat_or_shiftLeft _ (n := s.gost.ks.number) (k := 10) (h1.trans_lt (by omega)) (by omega)
  have h3 := toNat_or_shiftLeft _ (n := s.tw.ks.number) (k := 12) (h2.trans_lt (by omega)) (by omega)
  rw [statusWord, h3, h2, h1, h0]

/-- The fields of STATUS at their bit positions, and 0 in the reserved bits (10_state.md R25). -/
theorem statusWord_fields (s : State) :
    (statusWord s).extractLsb' 0 4 = BitVec.ofNat 4 s.code.number ∧ (statusWord s).extractLsb' 4 4 = 0#4 ∧
    (statusWord s).extractLsb' 8 2 = BitVec.ofNat 2 s.bf.ks.number ∧
    (statusWord s).extractLsb' 10 2 = BitVec.ofNat 2 s.gost.ks.number ∧
    (statusWord s).extractLsb' 12 2 = BitVec.ofNat 2 s.tw.ks.number ∧ (statusWord s).extractLsb' 14 18 = 0#18 := by
  have hc := s.code.number_lt
  have hb := s.bf.ks.number_lt
  have hg := s.gost.ks.number_lt
  have ht := s.tw.ks.number_lt
  refine ⟨?_, ?_, ?_, ?_, ?_, ?_⟩
  all_goals
    apply BitVec.eq_of_toNat_eq
    simp only [BitVec.extractLsb'_toNat, statusWord_toNat, BitVec.toNat_ofNat, Nat.shiftRight_eq_div_pow]
    omega

/-- The numbers of the status codes, as the 4-bit values of STATUS.CODE (60_exceptions.md R300). -/
theorem StatusCode.number_mem (c : StatusCode) :
    (c, BitVec.ofNat 4 c.number) ∈
      [(StatusCode.ok, 0#4), (.empty, 1#4), (.keyLength, 2#4), (.noKey, 3#4), (.illegal, 4#4), (.length, 5#4),
       (.overlap, 6#4), (.bus, 7#4)] := by
  cases c <;> decide

/-- The numbers of the slot states, as the 2-bit values of STATUS (10_state.md R25). -/
theorem KeyState.number_mem (k : KeyState) :
    (k, BitVec.ofNat 2 k.number) ∈ [(KeyState.empty, 0#2), (.valid, 1#2), (.failed, 2#2)] := by
  cases k <;> decide

/-- Settles O7: the read observes `statusWord`, whose fields are the numbers of the code and of the slot states. -/
theorem statusReadsItsFields : Obligations.StatusReadsItsFields := by
  intro s rest h
  obtain ⟨hcode, h4, hbf, hgost, htw, h14⟩ := statusWord_fields s
  refine ⟨statusWord s, step_readReg h (by decide) (by decide), ?_, h4, ?_, ?_, ?_, h14⟩
  · rw [hcode]; exact s.code.number_mem
  · rw [hbf]; exact s.bf.ks.number_mem
  · rw [hgost]; exact s.gost.ks.number_mem
  · rw [htw]; exact s.tw.ks.number_mem

/-- STATUS reads nothing but the code and the slot states. -/
theorem statusWord_congr {s t : State} (hc : t.code = s.code) (hb : t.bf.ks = s.bf.ks) (hg : t.gost.ks = s.gost.ks)
    (hw : t.tw.ks = s.tw.ks) : statusWord t = statusWord s := by
  simp only [statusWord, hc, hb, hg, hw]

/-- Settles O10: the registers are those of `State.reset`, and STATUS is the sum of numbers that are all 0. -/
theorem resetStateHoldsTheResetValues : Obligations.ResetStateHoldsTheResetValues :=
  ⟨rfl, rfl, rfl, rfl, rfl, rfl, rfl, rfl, rfl, BitVec.eq_of_toNat_eq (statusWord_toNat State.reset)⟩

/-- Settles O25: STATUS reads only the states of the slots, and every other register is a field of its own. -/
theorem registerReadsRevealNoSchedule : Obligations.RegisterReadsRevealNoSchedule := by
  intro s offset b g w
  have hstatus : statusWord { s with bf := ⟨s.bf.ks, b⟩, gost := ⟨s.gost.ks, g⟩, tw := ⟨s.tw.ks, w⟩ } = statusWord s :=
    statusWord_congr rfl rfl rfl rfl
  simp only [readReg, hstatus]

/-! ### What a command reads of the key slots

`s.withSlots b g w` is `s` with other slots. A command of engine `e` cannot tell the two states apart when `e`'s own slot
is alike in both: then it reports the same code, and each slot is either left alone in both or written alike. -/

/-- `s` with other contents in its three slots. -/
def State.withSlots (s : State) (b : Slot BfSchedule) (g : Slot GostSchedule) (w : Slot TwSchedule) : State :=
  { s with bf := b, gost := g, tw := w }

/-- Two slots a command may not tell apart: the same state, and the same storage when that state is VALID. -/
def Slot.alike {α : Type} (x y : Slot α) : Prop := y.ks = x.ks ∧ (x.ks = .valid → y = x)

theorem Slot.alike_refl {α : Type} (x : Slot α) : x.alike x := ⟨rfl, fun _ => rfl⟩

/-- Storage may be exchanged in a slot that is not VALID. -/
theorem Slot.alike_mk {α : Type} {x : Slot α} {y : α} (h : x.ks = .valid → y = x.sched) : x.alike ⟨x.ks, y⟩ :=
  ⟨rfl, fun hv => by rw [h hv]⟩

theorem Slot.alike.eq_mk {α : Type} {x y : Slot α} (h : x.alike y) : y = ⟨x.ks, y.sched⟩ := by
  rw [← h.1]

/-- Engine `e`'s own slot is alike in `s` and in `s.withSlots b g w`. -/
def ownAlike (e : Engine) (s : State) (b : Slot BfSchedule) (g : Slot GostSchedule) (w : Slot TwSchedule) : Prop :=
  match e with
  | .bf => s.bf.alike b
  | .gost => s.gost.alike g
  | .tw => s.tw.alike w

/-- How a slot passes through a command in two runs that began with `x` and `y` in it: left alone in both, or, if it is
the command's own, written alike. -/
def Slot.carried {α : Type} (own : Prop) (x y x' y' : Slot α) : Prop := (x' = x ∧ y' = y) ∨ (own ∧ y' = x')

theorem Slot.carried.alike {α : Type} {own : Prop} {x y x' y' : Slot α} (h : Slot.carried own x y x' y')
    (ha : x.alike y) : x'.alike y' := by
  obtain ⟨rfl, rfl⟩ | ⟨-, rfl⟩ := h
  · exact ha
  · exact Slot.alike_refl _

/-- Where the two runs begin with the same own slot, they end with the same one; another's slot stays as given. -/
theorem Slot.carried.eq_ite {α : Type} {own : Prop} [Decidable own] {x y x' y' : Slot α}
    (h : Slot.carried own x y x' y') (hy : own → y = x) : y' = if own then x' else y := by
  obtain ⟨rfl, rfl⟩ | ⟨ho, rfl⟩ := h
  · split_ifs with ho
    · exact hy ho
    · rfl
  · rw [if_pos ho]

/-- `t'` is to `t` what `s.withSlots b g w` is to `s`: it differs in slots only, and each slot was carried. -/
structure CarriedSlots (e : Engine) (s : State) (b : Slot BfSchedule) (g : Slot GostSchedule) (w : Slot TwSchedule)
    (t t' : State) : Prop where
  same : t' = t.withSlots t'.bf t'.gost t'.tw
  bf : Slot.carried (e = .bf) s.bf b t.bf t'.bf
  gost : Slot.carried (e = .gost) s.gost g t.gost t'.gost
  tw : Slot.carried (e = .tw) s.tw w t.tw t'.tw

section
variable {e : Engine} {s : State} {b : Slot BfSchedule} {g : Slot GostSchedule} {w : Slot TwSchedule}

theorem ks_withSlots (ha : ownAlike e s b g w) : (s.withSlots b g w).ks e = s.ks e := by
  cases e <;> exact ha.1

theorem encBlock_withSlots (ha : ownAlike e s b g w) (hv : s.ks e = .valid) :
    encBlock e (s.withSlots b g w) = encBlock e s := by
  funext x
  cases e <;> simp only [encBlock, State.withSlots, ha.2 hv]

theorem decBlock_withSlots (ha : ownAlike e s b g w) (hv : s.ks e = .valid) :
    decBlock e (s.withSlots b g w) = decBlock e s := by
  funext x
  cases e <;> simp only [decBlock, State.withSlots, ha.2 hv]

/-- The checks read nothing of a slot but its state. -/
theorem dataChecks_withSlots (o : Op) (ha : ownAlike e s b g w) :
    dataChecks o e (s.withSlots b g w) = dataChecks o e s := by
  have hk := ks_withSlots ha
  cases o with
  | keyset | wipe => rfl
  | encb | decb => simp only [dataChecks, blockChecks, hk]; rfl
  | ecbe => simp only [dataChecks, ecbeChecks, hk]; rfl
  | ecbd => simp only [dataChecks, ecbdChecks, hk]; rfl
  | cbce => simp only [dataChecks, cbceChecks, hk]; rfl
  | cbcd => simp only [dataChecks, cbcdChecks, hk]; rfl

/-- The bytes an operation stores depend on its engine's own key alone. -/
theorem storedBytes_withSlots (o : Op) (ha : ownAlike e s b g w) (hv : s.ks e = .valid) :
    storedBytes o e (s.withSlots b g w) = storedBytes o e s := by
  have henc := encBlock_withSlots ha hv
  have hdec := decBlock_withSlots ha hv
  cases o with
  | keyset | wipe => rfl
  | encb | ecbe | cbce => simp only [storedBytes, henc]; rfl
  | decb | ecbd | cbcd => simp only [storedBytes, hdec]; rfl

theorem reportedLength_withSlots (o : Op) (ha : ownAlike e s b g w) (hv : s.ks e = .valid) :
    reportedLength o e (s.withSlots b g w) = reportedLength o e s := by
  cases o with
  | keyset | wipe | encb | decb | ecbe | cbce => rfl
  | ecbd | cbcd => simp only [reportedLength, storedBytes_withSlots _ ha hv]; rfl

theorem dataEffect_withSlots (o : Op) (ha : ownAlike e s b g w) (hv : s.ks e = .valid) :
    dataEffect o e (s.withSlots b g w) = (dataEffect o e s).withSlots b g w := by
  rw [dataEffect, storedBytes_withSlots o ha hv, reportedLength_withSlots o ha hv]
  rfl

theorem carriedSlots_refl : CarriedSlots e s b g w s (s.withSlots b g w) :=
  ⟨rfl, .inl ⟨rfl, rfl⟩, .inl ⟨rfl, rfl⟩, .inl ⟨rfl, rfl⟩⟩

theorem CarriedSlots.finish {t t' : State} (h : CarriedSlots e s b g w t t') (c : StatusCode) (n : Nat) :
    CarriedSlots e s b g w (t.finish c n) (t'.finish c n) :=
  ⟨congrArg (fun u => u.finish c n) h.same, h.bf, h.gost, h.tw⟩

theorem wipeSlot_carries (k : KeyState) :
    CarriedSlots e s b g w (s.wipeSlot k e) ((s.withSlots b g w).wipeSlot k e) := by
  cases e with
  | bf => exact ⟨rfl, .inr ⟨rfl, rfl⟩, .inl ⟨rfl, rfl⟩, .inl ⟨rfl, rfl⟩⟩
  | gost => exact ⟨rfl, .inl ⟨rfl, rfl⟩, .inr ⟨rfl, rfl⟩, .inl ⟨rfl, rfl⟩⟩
  | tw => exact ⟨rfl, .inl ⟨rfl, rfl⟩, .inl ⟨rfl, rfl⟩, .inr ⟨rfl, rfl⟩⟩

theorem loadKey_carries : CarriedSlots e s b g w (loadKey e s) (loadKey e (s.withSlots b g w)) := by
  cases e with
  | bf => exact ⟨rfl, .inr ⟨rfl, rfl⟩, .inl ⟨rfl, rfl⟩, .inl ⟨rfl, rfl⟩⟩
  | gost => exact ⟨rfl, .inl ⟨rfl, rfl⟩, .inr ⟨rfl, rfl⟩, .inl ⟨rfl, rfl⟩⟩
  | tw => exact ⟨rfl, .inl ⟨rfl, rfl⟩, .inl ⟨rfl, rfl⟩, .inr ⟨rfl, rfl⟩⟩

/-- A KEYSET reads no slot at all. -/
theorem keyChecks_withSlots : keyChecks e (s.withSlots b g w) = keyChecks e s := by
  cases e <;> rfl

theorem keyset_carries : CarriedSlots e s b g w (keyset e s (keyChecks e s) (loadKey e))
    (keyset e (s.withSlots b g w) (keyChecks e (s.withSlots b g w)) (loadKey e)) := by
  rw [keyChecks_withSlots]
  cases keyChecks e s with
  | some c => exact (wipeSlot_carries .failed).finish c 0
  | none => exact loadKey_carries.finish .ok 0

theorem dataCommand_carries {o : Op} (ho : onData o) (ha : ownAlike e s b g w) :
    CarriedSlots e s b g w (dataCommand o e s) (dataCommand o e (s.withSlots b g w)) := by
  have hc := dataChecks_withSlots o ha
  cases h : dataChecks o e s with
  | some c =>
    rw [dataCommand_raise h, dataCommand_raise (hc.trans h)]
    exact carriedSlots_refl.finish c 0
  | none =>
    rw [dataCommand_effect h, dataCommand_effect (hc.trans h),
      dataEffect_withSlots o ha (ks_valid_of_dataChecks ho h)]
    exact ⟨rfl, .inl ⟨rfl, rfl⟩, .inl ⟨rfl, rfl⟩, .inl ⟨rfl, rfl⟩⟩

end

/-- A command that cannot tell its own slot apart in two states ends alike in both. -/
theorem exec_carries {i : Instr} {s t : State} {b : Slot BfSchedule} {g : Slot GostSchedule} {w : Slot TwSchedule}
    (h : exec i s = .next t) (ha : ownAlike i.engine s b g w) :
    ∃ t', exec i (s.withSlots b g w) = .next t' ∧ CarriedSlots i.engine s b g w t t' := by
  by_cases hk : i.op = .keyset
  · rw [exec_keyset hk] at h
    cases h
    exact ⟨_, exec_keyset hk _, keyset_carries⟩
  by_cases hw : i.op = .wipe
  · rw [exec_wipe hw] at h
    cases h
    exact ⟨_, exec_wipe hw _, (wipeSlot_carries .empty).finish .ok 0⟩
  · rw [exec_data ⟨hk, hw⟩] at h
    cases h
    exact ⟨_, exec_data ⟨hk, hw⟩ _, dataCommand_carries ⟨hk, hw⟩ ha⟩

/-- With its own slot as it was, a command does the same and leaves the other two as they were given
(10_state.md R30). -/
theorem exec_foreignSlots {i : Instr} {s t : State} {b : Slot BfSchedule} {g : Slot GostSchedule} {w : Slot TwSchedule}
    (h : exec i s = .next t) (hb : i.engine = .bf → b = s.bf) (hg : i.engine = .gost → g = s.gost)
    (hw : i.engine = .tw → w = s.tw) :
    exec i (s.withSlots b g w) = .next (t.withSlots (if i.engine = .bf then t.bf else b)
      (if i.engine = .gost then t.gost else g) (if i.engine = .tw then t.tw else w)) := by
  have own : ownAlike i.engine s b g w := by
    cases he : i.engine with
    | bf => rw [hb he]; exact Slot.alike_refl _
    | gost => rw [hg he]; exact Slot.alike_refl _
    | tw => rw [hw he]; exact Slot.alike_refl _
  obtain ⟨t', ht', hsame, cb, cg, cw⟩ := exec_carries h own
  rw [cb.eq_ite hb, cg.eq_ite hg, cw.eq_ite hw] at hsame
  rw [ht', hsame]

/-- Settles O23: each part exchanges the two slots that are not the command's own. -/
theorem commandsKeepToTheirOwnSlot : Obligations.CommandsKeepToTheirOwnSlot := by
  intro i s t b g w h
  refine ⟨fun he => ?_, fun he => ?_, fun he => ?_⟩
  · simpa [he, State.withSlots] using
      exec_foreignSlots (b := s.bf) (g := g) (w := w) h (fun _ => rfl) (by simp [he]) (by simp [he])
  · simpa [he, State.withSlots] using
      exec_foreignSlots (b := b) (g := s.gost) (w := w) h (by simp [he]) (fun _ => rfl) (by simp [he])
  · simpa [he, State.withSlots] using
      exec_foreignSlots (b := b) (g := g) (w := s.tw) h (by simp [he]) (by simp [he]) (fun _ => rfl)

/-- Settles O24: storage that differs only in slots that are not VALID is alike, before and after. -/
theorem unloadedStorageIsNeverRead : Obligations.UnloadedStorageIsNeverRead := by
  intro i s t b g w h hb hg hw
  have ab := Slot.alike_mk hb
  have ag := Slot.alike_mk hg
  have aw := Slot.alike_mk hw
  have own : ownAlike i.engine s ⟨s.bf.ks, b⟩ ⟨s.gost.ks, g⟩ ⟨s.tw.ks, w⟩ := by
    cases i.engine with
    | bf => exact ab
    | gost => exact ag
    | tw => exact aw
  obtain ⟨t', ht', hsame, cb, cg, cw⟩ := exec_carries h own
  have ab' := cb.alike ab
  have ag' := cg.alike ag
  have aw' := cw.alike aw
  rw [ab'.eq_mk, ag'.eq_mk, aw'.eq_mk] at hsame
  exact ⟨t'.bf.sched, t'.gost.sched, t'.tw.sched, ht'.trans (congrArg _ hsame),
    fun hv => congrArg Slot.sched (ab'.2 hv), fun hv => congrArg Slot.sched (ag'.2 hv),
    fun hv => congrArg Slot.sched (aw'.2 hv)⟩

end Sys2Proof.Machine

/-! ## Proofs for the family 20_memory.md: what the core reads and writes of the host's memory -/

namespace Sys2Proof.Machine

/-! ### Ranges and single bytes -/

/-- A range meets a single byte when it holds it. -/
theorem overlaps_byte (b m a : Nat) : overlaps b m a 1 = true ↔ b ≤ a ∧ a < b + m := by
  simp only [overlaps, decide_eq_true_eq]
  omega

/-- A range inside the address space whose every byte is admitted passes RangeOK: a range left out that met it would hold
one of its bytes (20_memory.md R53). -/
theorem rangeOk_of_memAdmit {s : State} {a n : Nat} (hle : a + n ≤ 2 ^ 32)
    (h : ∀ i, i < n → memAdmit s (a + i) = true) : rangeOk s a n = true := by
  have hmiss : ∀ r ∈ s.holes, overlaps r.base r.size a n = false := by
    intro r hr
    rw [← Bool.not_eq_true, overlaps_iff]
    rintro ⟨x, hxr, hax, hxn⟩
    obtain ⟨i, rfl⟩ := Nat.exists_eq_add_of_le hax
    have hi := h i (by omega)
    simp only [memAdmit, Bool.and_eq_true, List.all_eq_true, Bool.not_eq_true', ← Bool.not_eq_true, overlaps_byte] at hi
    exact hi.2 r hr hxr
  simp only [rangeOk, Config.addrSpace, Bool.or_eq_true, Bool.and_eq_true, decide_eq_true_eq, List.all_eq_true,
    Bool.not_eq_true']
  exact .inr ⟨hle, hmiss⟩

/-- A range that passes RangeOK is empty or does not wrap around (20_memory.md R53). -/
theorem rangeOk_le {s : State} {a n : Nat} (h : rangeOk s a n = true) : n = 0 ∨ a + n ≤ 2 ^ 32 := by
  simp only [rangeOk, Config.addrSpace, Bool.or_eq_true, Bool.and_eq_true, beq_iff_eq, decide_eq_true_eq] at h
  omega

/-- Settles O13: RangeOK admits every byte of its range, and admitting every byte keeps every hole away. -/
theorem rangeOkIsAdmissionOfEveryByte : Obligations.RangeOkIsAdmissionOfEveryByte := by
  intro s a n
  constructor
  · intro h
    exact (rangeOk_le h).imp_right fun hle => ⟨hle, fun i hi => memAdmit_of_rangeOk h (by omega)⟩
  · rintro (rfl | ⟨hle, hall⟩)
    · rfl
    · exact rangeOk_of_memAdmit hle hall

/-- Settles O14, by the laws of a store and of a read of bytes. -/
theorem memWriteThenMemRead : Obligations.MemWriteThenMemRead := by
  intro s a b h
  refine ⟨Memory.readBytes_writeBytes h a.toNat b, (memWrite_storedAt h a b).2, fun n i hi => ?_⟩
  exact ⟨memRead_length s a n, Memory.byteAt_readBytes s.mem a.toNat hi⟩

/-! ### The host's write of memory -/

/-- Settles O11: the access is `memWrite` where RangeOK holds, and the fault where it does not. -/
theorem hostMemoryWriteStoresItsBytes : Obligations.HostMemoryWriteStoresItsBytes := by
  intro s a bytes rest hwf hp
  have hstep : step s = if rangeOk s a.toNat bytes.length then .next (memWrite { s with pending := rest } a bytes)
      else .fault .hostMemory := step_access hp
  refine ⟨fun hr => ?_, fun hr => by rw [hstep, hr]; rfl⟩
  refine ⟨_, hstep.trans (if_pos hr), memWrite_storedAt (s := { s with pending := rest }) hwf a bytes,
    ⟨rfl, rfl, rfl, rfl⟩, ⟨rfl, rfl, rfl⟩, rfl, rfl, rfl, rfl, rfl, rfl, rfl, rfl⟩

/-! ### Bytes that MEM_ADMIT leaves out are never written -/

/-- From `s` to `t` MEM_ADMIT is the same, and no byte it leaves out changed. -/
structure SparesHoles (s t : State) : Prop where
  holes : t.holes = s.holes
  read : ∀ a, memAdmit s a = false → t.mem.read a = s.mem.read a

/-- MEM_ADMIT depends on the holes alone. -/
theorem memAdmit_congr {s t : State} (h : t.holes = s.holes) (a : Nat) : memAdmit t a = memAdmit s a := by
  simp only [memAdmit, h]

/-- What touches neither memory nor the holes spares the holes. -/
theorem sparesHoles_of_mem_eq {s t : State} (hh : t.holes = s.holes) (hm : t.mem = s.mem) : SparesHoles s t :=
  ⟨hh, fun a _ => by rw [hm]⟩

/-- A store of bytes that all exist spares the holes, since every byte it writes is admitted (20_memory.md R58). -/
theorem sparesHoles_of_store {s t : State} {a : Nat} {bytes : List Byte} (hwf : s.mem.wf = true)
    (hr : rangeOk s a bytes.length = true) (hh : t.holes = s.holes) (hm : t.mem = s.mem.writeBytes a bytes) :
    SparesHoles s t where
  holes := hh
  read x hx := by
    have hout : ¬(a ≤ x ∧ x < a + bytes.length) := fun hin => by simp [memAdmit_of_rangeOk hr hin] at hx
    rw [hm]
    exact Memory.read_writeBytes_outside hwf bytes (by omega)

@[simp] theorem wipeSlot_mem (s : State) (k : KeyState) (e : Engine) : (s.wipeSlot k e).mem = s.mem := by
  cases e <;> rfl

@[simp] theorem wipeSlot_holes (s : State) (k : KeyState) (e : Engine) : (s.wipeSlot k e).holes = s.holes := by
  cases e <;> rfl

@[simp] theorem loadKey_mem (e : Engine) (s : State) : (loadKey e s).mem = s.mem := by
  cases e <;> rfl

@[simp] theorem loadKey_holes (e : Engine) (s : State) : (loadKey e s).holes = s.holes := by
  cases e <;> rfl

@[simp] theorem writeReg_mem (s : State) (o : Nat) (v : Word) : (writeReg s o v).mem = s.mem := by
  unfold writeReg
  split_ifs <;> rfl

@[simp] theorem writeReg_holes (s : State) (o : Nat) (v : Word) : (writeReg s o v).holes = s.holes := by
  unfold writeReg
  split_ifs <;> rfl

/-- Every effect of a command spares the holes. -/
theorem CommandEffect.sparesHoles {e : Engine} {s t : State} (hwf : s.mem.wf = true) (ht : CommandEffect e s t) :
    SparesHoles s t := by
  cases ht with
  | raised => exact sparesHoles_of_mem_eq rfl rfl
  | stored k n bytes hr => exact sparesHoles_of_store hwf hr rfl rfl
  | wiped | failed => exact sparesHoles_of_mem_eq (wipeSlot_holes s _ e) (wipeSlot_mem s _ e)
  | loaded => exact sparesHoles_of_mem_eq (loadKey_holes e s) (loadKey_mem e s)

theorem hostAccess_sparesHoles {s t : State} {a : HostAccess} (hwf : s.mem.wf = true)
    (ht : hostAccess s a = .next t) : SparesHoles s t := by
  obtain ⟨v, -, hv⟩ | ⟨o, v, -, -, rfl⟩ | ⟨o, -, rfl⟩ | ⟨x, bytes, -, hr, rfl⟩ | ⟨-, rfl⟩ := hostAccess_cases ht
  · obtain ⟨i, -, hi⟩ | ⟨w, -, rfl⟩ := writeCmd_cases hv
    · exact (exec_commandEffect hi).sparesHoles hwf
    · exact sparesHoles_of_mem_eq rfl rfl
  · exact sparesHoles_of_mem_eq (writeReg_holes s o v) (writeReg_mem s o v)
  · exact sparesHoles_of_mem_eq rfl rfl
  · exact sparesHoles_of_store hwf hr rfl rfl
  · exact sparesHoles_of_mem_eq rfl rfl

theorem step_sparesHoles {s t : State} (hwf : s.mem.wf = true) (ht : step s = .next t) : SparesHoles s t := by
  obtain ⟨-, rfl⟩ | ⟨a, rest, -, ha⟩ := step_cases ht
  · exact sparesHoles_of_mem_eq rfl rfl
  · obtain ⟨holes, read⟩ := hostAccess_sparesHoles (s := { s with pending := rest }) hwf ha
    exact ⟨holes, read⟩

/-- Settles O15: a step spares the holes. -/
theorem unadmittedBytesAreNeverWritten : Obligations.UnadmittedBytesAreNeverWritten := by
  intro s t a hwf ht
  have hs := step_sparesHoles hwf ht
  exact ⟨hs.read a, memAdmit_congr hs.holes a⟩

/-! ### CBCE and the supplied IV -/

/-- CBCE stores at most the padded source and one block more, the IV (46_mode_cbc.md R272). -/
theorem storedBytes_cbce_length_le (e : Engine) (s : State) :
    (storedBytes .cbce e s).length ≤ paddedLen s.len.toNat (blockLen e) + blockLen e := by
  have := cbcEncrypt_toBlocks_length_le (encBlock_length e s) (cbcIv e s)
    (pad (memRead s s.src s.len.toNat) (blockLen e))
  simp only [storedBytes, List.length_append, cbcIv_length, pad_length, memRead_length] at this ⊢
  omega

/-- Settles O27: a CBCE that stores anything has checked that its destination misses the IV (46_mode_cbc.md R272). -/
theorem suppliedIvIsNeverWritten : Obligations.SuppliedIvIsNeverWritten := by
  intro i s t x ho hwf ht hiva hx
  rw [exec_cbce ho, modeCbce_eq] at ht
  cases ht
  cases hc : dataChecks .cbce i.engine s with
  | some c => rw [dataCommand_raise hc, raise_mem]
  | none =>
    obtain ⟨-, -, -, -, -, -, -, hmiss⟩ := cbceChecks_none.1 hc
    have hlen := storedBytes_cbce_length_le i.engine s
    have hout : ¬(s.dst.toNat ≤ s.iva.toNat + x ∧
        s.iva.toNat + x < s.dst.toNat + (storedBytes .cbce i.engine s).length) := fun ⟨hlo, hhi⟩ =>
      Bool.eq_false_iff.1 (hmiss hiva)
        ((overlaps_iff _ _ _ _).2 ⟨s.iva.toNat + x, ⟨hlo, by omega⟩, by omega, by omega⟩)
    rw [dataCommand_effect hc]
    exact Memory.read_writeBytes_outside hwf _ (by omega)

/-! ### Bytes that MEM_ADMIT leaves out are never read

`s.withMem m` is `s` with another memory. A command that passes its checks reads admitted bytes only, so it cannot tell
the two states apart when the memories agree there, and it stores the same string in both. -/

/-- `s` with another memory. -/
def State.withMem (s : State) (m : Memory) : State := { s with mem := m }

/-- The memory `m` agrees with the one of `s` on every address MEM_ADMIT admits. -/
def agreesOnAdmitted (s : State) (m : Memory) : Prop := ∀ a, memAdmit s a = true → m.read a = s.mem.read a

/-- `t'` is to `t` what `s.withMem m` is to `s`: it differs in memory only, and nowhere MEM_ADMIT of `s` admits. -/
structure SameOnAdmitted (s t t' : State) : Prop where
  same : t' = t.withMem t'.mem
  read : ∀ a, memAdmit s a = true → t'.mem.read a = t.mem.read a

/-- Where two memories agree, they agree after the same store. -/
theorem Memory.read_writeBytes_congr {m m' : Memory} (h : m.wf = true) (h' : m'.wf = true) (a : Nat) (bs : List Byte)
    {x : Nat} (hx : m'.read x = m.read x) : (m'.writeBytes a bs).read x = (m.writeBytes a bs).read x := by
  by_cases hin : a ≤ x ∧ x < a + bs.length
  · obtain ⟨i, rfl⟩ := Nat.exists_eq_add_of_le hin.1
    rw [Memory.read_writeBytes_inside h' a bs (by omega), Memory.read_writeBytes_inside h a bs (by omega)]
  · rw [Memory.read_writeBytes_outside h' bs (by omega), Memory.read_writeBytes_outside h bs (by omega), hx]

@[simp] theorem withMem_src (s : State) (m : Memory) : (s.withMem m).src = s.src := rfl
@[simp] theorem withMem_len (s : State) (m : Memory) : (s.withMem m).len = s.len := rfl
@[simp] theorem encBlock_withMem (e : Engine) (s : State) (m : Memory) : encBlock e (s.withMem m) = encBlock e s := rfl
@[simp] theorem decBlock_withMem (e : Engine) (s : State) (m : Memory) : decBlock e (s.withMem m) = decBlock e s := rfl

section
variable {o : Op} {e : Engine} {s : State} {m : Memory}

/-- A string read from a range that passes RangeOK is the same in both memories. -/
theorem memRead_withMem {a : Word} {n : Nat} (hm : agreesOnAdmitted s m) (hr : rangeOk s a.toNat n = true) :
    memRead (s.withMem m) a n = memRead s a n :=
  Memory.readBytes_congr fun i hi => hm _ (memAdmit_of_rangeOk hr (by omega))

/-- No check reads memory. -/
theorem dataChecks_withMem : dataChecks o e (s.withMem m) = dataChecks o e s := by
  cases o <;> rfl

theorem keyChecks_withMem : keyChecks e (s.withMem m) = keyChecks e s := by
  cases e <;> rfl

/-- How many bytes at SRC an operation on data reads (30_encoding.md R73). -/
def sourceLength (o : Op) (e : Engine) (s : State) : Nat :=
  match o with
  | .encb | .decb => blockLen e
  | .ecbe | .ecbd | .cbce | .cbcd => s.len.toNat
  | .keyset | .wipe => 0

/-- An operation that passes its checks reads a source whose every byte exists (20_memory.md R55). -/
theorem rangeOk_source (h : dataChecks o e s = none) : rangeOk s s.src.toNat (sourceLength o e s) = true := by
  cases o with
  | keyset | wipe => rfl
  | encb | decb => exact (blockChecks_none.1 h).2.1
  | ecbe =>
    obtain ⟨-, -, -, hsrc, -⟩ := ecbeChecks_none.1 h
    exact hsrc
  | ecbd =>
    obtain ⟨-, -, -, -, hsrc, -⟩ := ecbdChecks_none.1 h
    exact hsrc
  | cbce =>
    obtain ⟨-, -, -, hsrc, -⟩ := cbceChecks_none.1 h
    exact hsrc
  | cbcd =>
    obtain ⟨-, -, -, -, -, hsrc, -⟩ := cbcdChecks_none.1 h
    exact hsrc

/-- A CBCE that passes its checks has the same IV in both memories: a supplied one exists, a drawn one is no memory. -/
theorem cbcIv_withMem (hm : agreesOnAdmitted s m) (h : dataChecks .cbce e s = none) :
    cbcIv e (s.withMem m) = cbcIv e s := by
  obtain ⟨-, -, -, -, -, hiv, -⟩ := cbceChecks_none.1 h
  have hgen : ivGenerated (s.withMem m) = ivGenerated s := rfl
  rw [cbcIv, cbcIv, hgen]
  split_ifs with hg
  · rfl
  · exact memRead_withMem hm (hiv (by simpa [ivGenerated] using hg))

/-- The string an operation stores depends on admitted bytes alone. -/
theorem storedBytes_withMem (hm : agreesOnAdmitted s m) (h : dataChecks o e s = none) :
    storedBytes o e (s.withMem m) = storedBytes o e s := by
  have hsrc := memRead_withMem hm (rangeOk_source h)
  cases o with
  | keyset | wipe => rfl
  | encb | decb | ecbe | ecbd | cbcd =>
    simp only [sourceLength] at hsrc
    simp only [storedBytes, withMem_src, withMem_len, encBlock_withMem, decBlock_withMem, hsrc]
  | cbce =>
    simp only [sourceLength] at hsrc
    simp only [storedBytes, withMem_src, withMem_len, encBlock_withMem, hsrc, cbcIv_withMem hm h]

theorem reportedLength_withMem (hm : agreesOnAdmitted s m) (h : dataChecks o e s = none) :
    reportedLength o e (s.withMem m) = reportedLength o e s := by
  cases o with
  | keyset | wipe | encb | decb | ecbe | cbce => rfl
  | ecbd | cbcd => simp only [reportedLength, withMem_len, storedBytes_withMem hm h]

/-- Where both runs leave memory alone, the memories agree as they did before. -/
theorem sameOnAdmitted_of_mem_eq {t : State} (hm : agreesOnAdmitted s m) (ht : t.mem = s.mem) :
    SameOnAdmitted s t (t.withMem m) :=
  ⟨rfl, fun a ha => by rw [ht]; exact hm a ha⟩

theorem dataCommand_sameOnAdmitted (hwf : s.mem.wf = true) (hwf' : m.wf = true) (hm : agreesOnAdmitted s m) :
    SameOnAdmitted s (dataCommand o e s) (dataCommand o e (s.withMem m)) := by
  have hc : dataChecks o e (s.withMem m) = dataChecks o e s := dataChecks_withMem
  cases h : dataChecks o e s with
  | some c =>
    rw [dataCommand_raise h, dataCommand_raise (hc.trans h)]
    exact sameOnAdmitted_of_mem_eq hm rfl
  | none =>
    rw [dataCommand_effect h, dataCommand_effect (hc.trans h), dataEffect, dataEffect, storedBytes_withMem hm h,
      reportedLength_withMem hm h]
    exact ⟨rfl, fun a ha => Memory.read_writeBytes_congr hwf hwf' s.dst.toNat _ (hm a ha)⟩

/-- The key a KEYSET that passes its checks loads depends on admitted bytes alone. -/
theorem loadKey_withMem (hm : agreesOnAdmitted s m) (h : keyChecks e s = none) :
    loadKey e (s.withMem m) = (loadKey e s).withMem m := by
  cases e with
  | bf =>
    obtain ⟨-, hr⟩ := keysetChecks_none.1 h
    simp only [loadKey, loadBf, withMem_src, withMem_len, memRead_withMem hm hr]
    rfl
  | gost =>
    obtain ⟨⟨hlen, -⟩, hr⟩ := keysetChecks_none.1 h
    simp only [loadKey, loadGost, withMem_src, memRead_withMem hm (rangeOk_mono hlen hr)]
    rfl
  | tw =>
    obtain ⟨⟨hlen, -⟩, hr⟩ := keysetChecks_none.1 h
    simp only [loadKey, loadTw, withMem_src, memRead_withMem hm (rangeOk_mono hlen hr)]
    rfl

theorem wipeSlot_withMem (k : KeyState) : (s.withMem m).wipeSlot k e = (s.wipeSlot k e).withMem m := by
  cases e <;> rfl

theorem keyset_sameOnAdmitted (hm : agreesOnAdmitted s m) :
    SameOnAdmitted s (keyset e s (keyChecks e s) (loadKey e))
      (keyset e (s.withMem m) (keyChecks e (s.withMem m)) (loadKey e)) := by
  rw [keyChecks_withMem]
  cases h : keyChecks e s with
  | some c =>
    rw [keyset_raise rfl, keyset_raise rfl, wipeSlot_withMem]
    exact sameOnAdmitted_of_mem_eq hm (wipeSlot_mem s .failed e)
  | none =>
    rw [keyset_effect rfl, keyset_effect rfl, loadKey_withMem hm h]
    exact sameOnAdmitted_of_mem_eq hm (loadKey_mem e s)

theorem wipe_sameOnAdmitted (hm : agreesOnAdmitted s m) : SameOnAdmitted s (wipe e s) (wipe e (s.withMem m)) := by
  rw [wipe, wipe, wipeSlot_withMem]
  exact sameOnAdmitted_of_mem_eq hm (wipeSlot_mem s .empty e)

end

/-- A command run on two memories that agree on the admitted bytes ends alike in both. -/
theorem exec_sameOnAdmitted {i : Instr} {s t : State} {m : Memory} (hwf : s.mem.wf = true) (hwf' : m.wf = true)
    (hm : agreesOnAdmitted s m) (h : exec i s = .next t) :
    ∃ t', exec i (s.withMem m) = .next t' ∧ SameOnAdmitted s t t' := by
  by_cases hk : i.op = .keyset
  · rw [exec_keyset hk] at h
    cases h
    exact ⟨_, exec_keyset hk _, keyset_sameOnAdmitted hm⟩
  by_cases hw : i.op = .wipe
  · rw [exec_wipe hw] at h
    cases h
    exact ⟨_, exec_wipe hw _, wipe_sameOnAdmitted hm⟩
  · rw [exec_data ⟨hk, hw⟩] at h
    cases h
    exact ⟨_, exec_data ⟨hk, hw⟩ _, dataCommand_sameOnAdmitted hwf hwf' hm⟩

/-- Settles O55: the second run differs in memory only, and not on the admitted bytes. -/
theorem unadmittedBytesAreNeverRead : Obligations.UnadmittedBytesAreNeverRead := by
  intro i s t m hwf hwf' hm h
  obtain ⟨t', ht', hsame, hread⟩ := exec_sameOnAdmitted hwf hwf' hm h
  exact ⟨t'.mem, ht'.trans (congrArg _ hsame), hread⟩

end Sys2Proof.Machine

/-! ## Proofs for the family 30_encoding.md: the command words, and what a host program's lines do at the port -/

namespace Sys2Proof

/-! ### A command is an engine and an operation -/

/-- The facts of Laws/PerInstr.lean, for every command at once. -/
theorem codingStatement (i : Instr) : Laws.Coding.Statement i := by
  cases i with
  | bfKeyset => exact Laws.Coding.bfKeyset
  | bfWipe => exact Laws.Coding.bfWipe
  | bfEncb => exact Laws.Coding.bfEncb
  | bfDecb => exact Laws.Coding.bfDecb
  | bfEcbe => exact Laws.Coding.bfEcbe
  | bfEcbd => exact Laws.Coding.bfEcbd
  | bfCbce => exact Laws.Coding.bfCbce
  | bfCbcd => exact Laws.Coding.bfCbcd
  | gostKeyset => exact Laws.Coding.gostKeyset
  | gostWipe => exact Laws.Coding.gostWipe
  | gostEncb => exact Laws.Coding.gostEncb
  | gostDecb => exact Laws.Coding.gostDecb
  | gostEcbe => exact Laws.Coding.gostEcbe
  | gostEcbd => exact Laws.Coding.gostEcbd
  | gostCbce => exact Laws.Coding.gostCbce
  | gostCbcd => exact Laws.Coding.gostCbcd
  | twKeyset => exact Laws.Coding.twKeyset
  | twWipe => exact Laws.Coding.twWipe
  | twEncb => exact Laws.Coding.twEncb
  | twDecb => exact Laws.Coding.twDecb
  | twEcbe => exact Laws.Coding.twEcbe
  | twEcbd => exact Laws.Coding.twEcbd
  | twCbce => exact Laws.Coding.twCbce
  | twCbcd => exact Laws.Coding.twCbcd

theorem make_engine_op (i : Instr) : Instr.make i.engine i.op = i := (codingStatement i).1

theorem encode_wellFormed (i : Instr) : (splitWord (encode i)).wellFormed = true := (codingStatement i).2.1

theorem encode_toNat (i : Instr) : (encode i).toNat = 16 * i.engine.code + i.op.code := (codingStatement i).2.2

@[simp] theorem engine_make (e : Engine) (o : Op) : (Instr.make e o).engine = e := by cases e <;> cases o <;> rfl

@[simp] theorem op_make (e : Engine) (o : Op) : (Instr.make e o).op = o := by cases e <;> cases o <;> rfl

theorem make_eq_iff {e : Engine} {o : Op} {i : Instr} : Instr.make e o = i ↔ e = i.engine ∧ o = i.op := by
  constructor
  · rintro rfl
    exact ⟨(engine_make e o).symm, (op_make e o).symm⟩
  · rintro ⟨rfl, rfl⟩
    exact make_engine_op i

theorem mem_all (i : Instr) : i ∈ Instr.all := by cases i <;> decide

/-! ### The codes of engines and operations -/

theorem Engine.code_le (e : Engine) : e.code ≤ 2 := by cases e <;> decide

theorem Op.code_bounds (o : Op) : 1 ≤ o.code ∧ o.code ≤ 8 := by cases o <;> decide

theorem Engine.exists_code {n : Nat} (h : n ≤ 2) : ∃ e : Engine, n = e.code := by
  interval_cases n
  exacts [⟨.bf, rfl⟩, ⟨.gost, rfl⟩, ⟨.tw, rfl⟩]

theorem Op.exists_code {n : Nat} (hlo : 1 ≤ n) (hhi : n ≤ 8) : ∃ o : Op, n = o.code := by
  interval_cases n
  exacts [⟨.keyset, rfl⟩, ⟨.wipe, rfl⟩, ⟨.encb, rfl⟩, ⟨.decb, rfl⟩, ⟨.ecbe, rfl⟩, ⟨.ecbd, rfl⟩, ⟨.cbce, rfl⟩,
    ⟨.cbcd, rfl⟩]

theorem decodeEngine_eq_some {n : Nat} {e : Engine} : decodeEngine n = some e ↔ n = e.code := by
  constructor
  · intro h
    unfold decodeEngine at h
    split at h <;> cases h <;> rfl
  · rintro rfl
    cases e <;> rfl

theorem decodeOp_eq_some {n : Nat} {o : Op} : decodeOp n = some o ↔ n = o.code := by
  constructor
  · intro h
    unfold decodeOp at h
    split at h <;> cases h <;> rfl
  · rintro rfl
    cases o <;> rfl

/-! ### The fields of a word -/

/-- RSV, ENG and OP are the word's digits, ENG of 2 bits and OP of 4 (30_encoding.md R70). -/
theorem splitWord_toNat (v : Word) :
    v.toNat = 64 * (splitWord v).rsv + 16 * (splitWord v).eng + (splitWord v).op ∧
      (splitWord v).eng < 4 ∧ (splitWord v).op < 16 := by
  have hv : v.toNat < 2 ^ 32 := v.isLt
  simp only [splitWord, BitVec.extractLsb'_toNat, Nat.shiftRight_eq_div_pow]
  omega

theorem splitWord_rsv_eq_zero {v : Word} : (splitWord v).rsv = 0 ↔ v >>> 6 = 0#32 := by
  have hv : v.toNat < 2 ^ 32 := v.isLt
  simp only [splitWord, BitVec.extractLsb'_toNat, ← BitVec.toNat_inj, BitVec.toNat_ushiftRight,
    Nat.shiftRight_eq_div_pow, BitVec.toNat_ofNat]
  omega

theorem splitWord_eng (v : Word) : (splitWord v).eng = ((v >>> 4) &&& 3#32).toNat := by
  simp only [splitWord, BitVec.extractLsb'_toNat, BitVec.toNat_and, BitVec.toNat_ushiftRight]
  exact (Nat.and_two_pow_sub_one_eq_mod _ 2).symm

theorem splitWord_op (v : Word) : (splitWord v).op = (v &&& 15#32).toNat := by
  simp only [splitWord, BitVec.extractLsb'_toNat, BitVec.toNat_and, Nat.shiftRight_zero]
  exact (Nat.and_two_pow_sub_one_eq_mod _ 4).symm

theorem CmdFields.wellFormed_iff {f : CmdFields} : f.wellFormed = true ↔ f.rsv = 0 ∧ f.eng ≤ 2 ∧ 1 ≤ f.op ∧ f.op ≤ 8 := by
  simp [CmdFields.wellFormed, and_assoc]

/-- The check of 30_encoding.md R74 on the bits of the word. -/
theorem splitWord_wellFormed_iff {v : Word} :
    (splitWord v).wellFormed = true ↔
      v >>> 6 = 0#32 ∧ ((v >>> 4) &&& 3#32).toNat ≤ 2 ∧ 1 ≤ (v &&& 15#32).toNat ∧ (v &&& 15#32).toNat ≤ 8 := by
  rw [CmdFields.wellFormed_iff, splitWord_rsv_eq_zero, splitWord_eng, splitWord_op]

/-! ### The decoder -/

/-- The decoder answers a command exactly for the fields that hold its engine's and its operation's codes. -/
theorem decodeFields_eq_command {f : CmdFields} {i : Instr} :
    decodeFields f = .command i ↔ f.rsv = 0 ∧ f.eng = i.engine.code ∧ f.op = i.op.code := by
  rw [← decodeEngine_eq_some, ← decodeOp_eq_some]
  unfold decodeFields
  by_cases hr : f.rsv = 0
  · cases he : decodeEngine f.eng with
    | none => simp [hr]
    | some e =>
      cases ho : decodeOp f.op with
      | none => simp [hr]
      | some o => simp [hr, make_eq_iff]
  · simp [hr]

/-- The decoder is the inverse of the encoder: a word decodes to a command iff it is the command's word. -/
theorem decode_eq_command {v : Word} {i : Instr} : decode v = .command i ↔ encode i = v := by
  obtain ⟨hv, heng, hop⟩ := splitWord_toNat v
  have he := i.engine.code_le
  have ho := i.op.code_bounds
  rw [decode, decodeFields_eq_command, ← BitVec.toNat_inj, encode_toNat, hv]
  omega

/-- A word decodes to some command iff its fields pass the check of 30_encoding.md R74. -/
theorem exists_decode_eq_command {v : Word} : (∃ i, decode v = .command i) ↔ (splitWord v).wellFormed = true := by
  constructor
  · rintro ⟨i, hi⟩
    obtain rfl := decode_eq_command.1 hi
    exact encode_wellFormed i
  · intro h
    obtain ⟨hrsv, heng, hlo, hhi⟩ := CmdFields.wellFormed_iff.1 h
    obtain ⟨e, he⟩ := Engine.exists_code heng
    obtain ⟨o, ho⟩ := Op.exists_code hlo hhi
    exact ⟨.make e o, decodeFields_eq_command.2 ⟨hrsv, by simpa using he, by simpa using ho⟩⟩

/-- The decoder is total: a word that fails the check is illegal (30_encoding.md R75, R76). -/
theorem exists_decode_eq_illegal {v : Word} (h : (splitWord v).wellFormed = false) :
    ∃ w, decode v = .illegal w := by
  cases hd : decode v with
  | command i => exact absurd (exists_decode_eq_command.1 ⟨i, hd⟩) (by simp [h])
  | illegal w => exact ⟨w, rfl⟩

/-- Settles O1: decoding to a command is being the command's word. -/
theorem decodeAndEncodeAgree : Obligations.DecodeAndEncodeAgree :=
  ⟨fun _ => decode_eq_command.2 rfl, fun _ _ => decode_eq_command.1⟩

/-- The opcode map lists each command beside its word. -/
theorem mem_opcodeMap {v : Word} {i : Instr} : (v, i) ∈ Instr.all.map (fun j => (encode j, j)) ↔ encode i = v := by
  simp [mem_all]

/-- Settles O2: the first part is the check on the word's fields, the second the encoder run on all 24 commands. -/
theorem opcodeMapIsComplete : Obligations.OpcodeMapIsComplete :=
  ⟨fun _ => exists_decode_eq_command.trans splitWord_wellFormed_iff,
    fun _ _ => decode_eq_command.trans mem_opcodeMap.symm⟩

/-- Settles O3: the decoder is run on the eight words. -/
theorem sampleWordsDecode : Obligations.SampleWordsDecode := by
  unfold Obligations.SampleWordsDecode
  decide

end Sys2Proof

namespace Sys2Proof.Machine

/-! ### A CMD write of an illegal word -/

theorem writeCmd_illegal {s : State} {v : Word} {w : Illegal} (h : decode v = .illegal w) :
    writeCmd s v = .next (s.raise .illegal) := by simp [writeCmd, h]

/-- Settles O5: each kind of illegal word fails the check on its fields, and raising ILLEGAL is all that happens. -/
theorem illegalWordChangesOnlyTheStatus : Obligations.IllegalWordChangesOnlyTheStatus := by
  intro s v rest h hill
  have hbad : (splitWord v).wellFormed = false := by
    rw [Bool.eq_false_iff, Ne, splitWord_wellFormed_iff]
    rintro ⟨hrsv, heng, hlo, hhi⟩
    obtain hrsv' | heng' | hop' | hop' := hill
    · exact hrsv' hrsv
    · exact absurd heng (by simp [heng'])
    · omega
    · omega
  obtain ⟨w, hw⟩ := exists_decode_eq_illegal hbad
  rw [step_writeCmd h, writeCmd_illegal hw]
  rfl

/-! ### Running the lines of a host program -/

theorem run_succ_of_step {s t : State} (h : step s = .next t) (k : Nat) :
    Host.Core.run Sys2Proof.core (k + 1) s = Host.Core.run Sys2Proof.core k t := by
  have hstep : Sys2Proof.core.step s = .next t := h
  simp only [Host.Core.run, hstep]

theorem run_one (s : State) : Host.Core.run Sys2Proof.core 1 s = step s := by
  cases h : step s with
  | next t => exact run_succ_of_step h 0
  | fault r | refused r =>
    have hstep : Sys2Proof.core.step s = _ := h
    simp only [Host.Core.run, hstep]
    rfl

/-- A `CMD` line runs its command (30_encoding.md R78). -/
theorem step_cmdLine {s : State} {i : Instr} {rest : List HostAccess}
    (h : s.pending = (HostLine.cmd i).access :: rest) : step s = exec i { s with pending := rest } := by
  rw [step_writeCmd h, writeCmd_command (decode_eq_command.2 rfl)]

/-- A `wr` line of a register other than CMD is a register write (30_encoding.md R78). -/
theorem step_wrLine {s : State} {r : Reg} {v : Word} {rest : List HostAccess} (hr : r ≠ .cmd)
    (h : s.pending = (HostLine.wr r v).access :: rest) :
    step s = .next (writeReg { s with pending := rest } r.offset v) := by
  have hoff : r.offset % 4 = 0 ∧ r.offset ≤ 0x3C ∧ r.offset ≠ 0 := by
    cases r with
    | cmd => exact absurd rfl hr
    | status | src | len | dst | iva | outlen => decide
  obtain ⟨ha, hw, h0⟩ := hoff
  exact step_writeReg h ha hw h0

theorem writeReg_withPending (s : State) (o : Nat) (v : Word) (l : List HostAccess) :
    { writeReg s o v with pending := l } = writeReg { s with pending := l } o v := by
  unfold writeReg
  split_ifs <;> rfl

/-- The state after the register writes `ws`, first to last. -/
def writeRegs (s : State) (ws : List (Reg × Word)) : State := ws.foldl (fun t w => writeReg t w.1.offset w.2) s

/-- Register writes and then a command: the command runs on the registers as written. -/
theorem run_wrLines_cmdLine (ws : List (Reg × Word)) (hws : ∀ w ∈ ws, w.1 ≠ .cmd) (i : Instr)
    (rest : List HostAccess) (s : State)
    (h : s.pending = ws.map (fun w => (HostLine.wr w.1 w.2).access) ++ (HostLine.cmd i).access :: rest) :
    Host.Core.run Sys2Proof.core (ws.length + 1) s = exec i (writeRegs { s with pending := rest } ws) := by
  induction ws generalizing s with
  | nil => exact (run_one s).trans (step_cmdLine h)
  | cons w ws ih =>
    obtain ⟨hw, hws⟩ := List.forall_mem_cons.1 hws
    rw [List.length_cons, run_succ_of_step (step_wrLine hw h), ih hws _ (writeReg_pending _ _ _),
      writeReg_withPending]
    rfl

/-- Settles O12: each expansion is its register writes and then its command. -/
theorem pseudoInstructionsExpand : Obligations.PseudoInstructionsExpand := by
  intro e a n d iv s rest
  refine ⟨fun h => ?_, fun h => ?_, fun h => ?_, fun h => ?_, fun h => ?_, fun h => ?_, fun h => ?_, fun h => ?_⟩
  · exact run_wrLines_cmdLine [(.src, a), (.len, n)] (by simp) _ rest s h
  · exact step_cmdLine h
  · exact run_wrLines_cmdLine [(.src, a), (.dst, d)] (by simp) _ rest s h
  · exact run_wrLines_cmdLine [(.src, a), (.dst, d)] (by simp) _ rest s h
  · exact run_wrLines_cmdLine [(.src, a), (.len, n), (.dst, d)] (by simp) _ rest s h
  · exact run_wrLines_cmdLine [(.src, a), (.len, n), (.dst, d)] (by simp) _ rest s h
  · exact run_wrLines_cmdLine [(.src, a), (.len, n), (.dst, d), (.iva, iv)] (by simp) _ rest s h
  · exact run_wrLines_cmdLine [(.src, a), (.len, n), (.dst, d)] (by simp) _ rest s h

/-! ### Every command ends in a next state -/

theorem exec_completes (i : Instr) (s : State) : ∃ t, exec i s = .next t := by
  by_cases hk : i.op = .keyset
  · exact ⟨_, exec_keyset hk s⟩
  by_cases hw : i.op = .wipe
  · exact ⟨_, exec_wipe hw s⟩
  · exact ⟨_, exec_data ⟨hk, hw⟩ s⟩

theorem sameHost_wipeSlot (s : State) (k : KeyState) (e : Engine) : sameHost s (s.wipeSlot k e) := by
  cases e <;> exact ⟨rfl, rfl, rfl, rfl⟩

theorem sameHost_loadKey (e : Engine) (s : State) : sameHost s (loadKey e s) := by
  cases e <;> exact ⟨rfl, rfl, rfl, rfl⟩

@[simp] theorem wipeSlot_history (s : State) (k : KeyState) (e : Engine) : (s.wipeSlot k e).history = s.history := by
  cases e <;> rfl

@[simp] theorem loadKey_history (e : Engine) (s : State) : (loadKey e s).history = s.history := by cases e <;> rfl

/-- No effect of a command touches the host's side. -/
theorem CommandEffect.sameHost {e : Engine} {s t : State} (ht : CommandEffect e s t) : sameHost s t := by
  cases ht with
  | raised | stored => exact ⟨rfl, rfl, rfl, rfl⟩
  | wiped | failed => exact sameHost_wipeSlot s _ e
  | loaded => exact sameHost_loadKey e s

/-- Every effect of a command puts the code it reports on the event history (60_exceptions.md R306). -/
theorem CommandEffect.history_eq {e : Engine} {s t : State} (ht : CommandEffect e s t) :
    t.history = t.code :: s.history := by
  cases ht with
  | raised | stored => rfl
  | wiped | failed | loaded => simp

/-- Settles O19: a command completes, and its effect keeps the host's side and reports one code. -/
theorem everyCommandCompletes : Obligations.EveryCommandCompletes := by
  intro i s
  obtain ⟨t, ht⟩ := exec_completes i s
  have heffect := exec_commandEffect ht
  exact ⟨t, ht, heffect.sameHost, heffect.history_eq⟩

end Sys2Proof.Machine

/-! ## Proofs for the family 40_byte_utilities.md: padding, and the entropy source -/

namespace Sys2Proof.Machine

/-! ### The entropy source (R97) -/

@[simp] theorem wipeSlot_drawn (s : State) (k : KeyState) (e : Engine) : (s.wipeSlot k e).drawn = s.drawn := by
  cases e <;> rfl

@[simp] theorem loadKey_drawn (e : Engine) (s : State) : (loadKey e s).drawn = s.drawn := by cases e <;> rfl

/-- An operation draws a block exactly when it is CBCE with IVA = 0 (46_mode_cbc.md R271). -/
theorem drawCount_eq (o : Op) (e : Engine) (s : State) :
    drawCount o e s = if o = .cbce ∧ s.iva = 0#32 then blockLen e else 0 := by
  simp [drawCount, ivGenerated, Config.nullAddr]

/-- An operation on data draws its bytes once it has passed its checks, and those alone answer a code other than OK. -/
theorem dataCommand_drawn (o : Op) (e : Engine) (s : State) :
    (dataCommand o e s).drawn = s.drawn + if (dataCommand o e s).code = .ok then drawCount o e s else 0 := by
  cases h : dataChecks o e s with
  | some c => simp [dataCommand_raise h, dataChecks_ne_ok h]
  | none => simp [dataCommand_effect h, dataEffect]

theorem keyset_drawn (e : Engine) (s : State) :
    (keyset e s (keyChecks e s) (loadKey e)).drawn = s.drawn := by
  cases h : keyChecks e s with
  | some c => simp [keyset_raise]
  | none => simp [keyset_effect]

/-- Every command that ends OK has drawn its count of bytes, and one that ends in an error has drawn none
(60_exceptions.md R302). -/
theorem exec_drawn {i : Instr} {s t : State} (h : exec i s = .next t) :
    t.drawn = s.drawn + if t.code = .ok then drawCount i.op i.engine s else 0 := by
  by_cases hk : i.op = .keyset
  · rw [exec_keyset hk] at h
    cases h
    simp [keyset_drawn, drawCount, hk]
  by_cases hw : i.op = .wipe
  · rw [exec_wipe hw] at h
    cases h
    simp [wipe, drawCount, hw]
  · rw [exec_data ⟨hk, hw⟩] at h
    cases h
    exact dataCommand_drawn _ _ _

/-- Settles O26: the count of bytes a command draws, with the condition of its operation written out. -/
theorem entropyIsDrawnOnlyForGeneratedIvs : Obligations.EntropyIsDrawnOnlyForGeneratedIvs := by
  intro i s t ht
  have hdrawn := exec_drawn ht
  rw [drawCount_eq] at hdrawn
  constructor
  · rintro ⟨ho, hiva, hok⟩
    simpa [ho, hiva, hok] using hdrawn
  · intro hnot
    rw [hdrawn]
    split_ifs with hok hcbce
    · exact absurd ⟨hcbce.1, hcbce.2, hok⟩ hnot
    · rfl
    · rfl

/-! ### Bytes of a string in two parts -/

theorem byteAt_append_left {a : List Byte} {i : Nat} (b : List Byte) (h : i < a.length) :
    byteAt (a ++ b) i = byteAt a i := List.getD_append _ _ _ _ h

theorem byteAt_append_right {a : List Byte} {i : Nat} (b : List Byte) (h : a.length ≤ i) :
    byteAt (a ++ b) i = byteAt b (i - a.length) := List.getD_append_right _ _ _ _ h

/-! ### PaddedLen and Pad (R90, R91) -/

theorem paddedLen_of_whole {n bs : Nat} (h : n % bs = 0) : paddedLen n bs = n := by simp [paddedLen, h]

/-- Off a block boundary the padding fills the last block, and it holds the marker at least. -/
theorem paddedLen_of_partial {n bs : Nat} (hbs : 0 < bs) (h : n % bs ≠ 0) : paddedLen n bs = n + (bs - n % bs) := by
  have := Nat.mod_lt n hbs
  rw [paddedLen, Nat.mod_eq_of_lt (by omega)]

theorem paddedLen_mod {n bs : Nat} (hbs : 0 < bs) : paddedLen n bs % bs = 0 := by
  by_cases h : n % bs = 0
  · rw [paddedLen_of_whole h, h]
  · have hlt := Nat.mod_lt n hbs
    have hsum : n + (bs - n % bs) = bs * (n / bs + 1) := by
      have := Nat.div_add_mod n bs
      rw [Nat.mul_succ]
      omega
    rw [paddedLen_of_partial hbs h, hsum, Nat.mul_mod_right]

theorem pad_of_whole {d : List Byte} {bs : Nat} (h : d.length % bs = 0) : pad d bs = d := by
  simp [pad, paddedLen_of_whole h]

theorem pad_of_partial {d : List Byte} {bs : Nat} (hbs : 0 < bs) (h : d.length % bs ≠ 0) :
    pad d bs = d ++ Config.padByte :: List.replicate (bs - d.length % bs - 1) 0#8 := by
  have hlt := Nat.mod_lt d.length hbs
  have hcount : paddedLen d.length bs - d.length = bs - d.length % bs - 1 + 1 := by
    rw [paddedLen_of_partial hbs h]
    omega
  rw [pad, hcount]

/-- The data comes first, with or without padding after it. -/
theorem take_pad (d : List Byte) (bs : Nat) : (pad d bs).take d.length = d := by
  unfold pad
  split <;> simp

theorem byteAt_pad_marker {d : List Byte} {bs : Nat} (hbs : 0 < bs) (h : d.length % bs ≠ 0) :
    byteAt (pad d bs) d.length = 0x80#8 := by
  rw [pad_of_partial hbs h, byteAt_append_right _ le_rfl, Nat.sub_self]
  rfl

theorem byteAt_pad_zero {d : List Byte} {bs i : Nat} (hbs : 0 < bs) (h : d.length % bs ≠ 0) (hi : d.length < i) :
    byteAt (pad d bs) i = 0x00#8 := by
  obtain ⟨k, rfl⟩ := Nat.exists_eq_add_of_lt hi
  rw [pad_of_partial hbs h, byteAt_append_right _ hi.le, Nat.add_assoc, Nat.add_sub_cancel_left]
  simp [byteAt]

/-- Settles O43, by the two forms of the padded string: on a block boundary and off it. -/
theorem padAppendsTheMarkerAndZeros : Obligations.PadAppendsTheMarkerAndZeros := by
  intro d bs _ hbs
  have hpos : 0 < bs := by omega
  exact ⟨rfl, pad_length d bs, paddedLen_mod hpos, take_pad d bs, pad_of_whole,
    fun h => ⟨byteAt_pad_marker hpos h, fun _ hi _ => byteAt_pad_zero hpos h hi⟩⟩

/-! ### PaddingIndex (R92)

The scan runs from the end of the string, so its facts are about a string and one byte more. -/

/-- Byte `i` is the marker 0x80, and only zeros follow it. -/
def markerAt (b : List Byte) (i : Nat) : Prop :=
  i < b.length ∧ byteAt b i = 0x80#8 ∧ ∀ j, i < j → j < b.length → byteAt b j = 0x00#8

theorem byteAt_concat_last (b : List Byte) (x : Byte) : byteAt (b ++ [x]) b.length = x := by
  rw [byteAt_append_right _ le_rfl, Nat.sub_self]
  rfl

@[simp] theorem paddingIndex_nil : paddingIndex [] = none := rfl

/-- A zero byte at the end is skipped. -/
theorem paddingIndex_concat_zero (b : List Byte) : paddingIndex (b ++ [0#8]) = paddingIndex b := by
  simp [paddingIndex]

/-- The scan stops at the last byte that is not zero. -/
theorem paddingIndex_concat_nonzero (b : List Byte) {x : Byte} (hx : x ≠ 0#8) :
    paddingIndex (b ++ [x]) = if x = 0x80#8 then some b.length else none := by
  simp [paddingIndex, hx, Config.padByte]

theorem not_markerAt_of_length_le {b : List Byte} {i : Nat} (h : b.length ≤ i) : ¬markerAt b i :=
  fun ⟨hi, _⟩ => Nat.not_lt.2 h hi

/-- The zeros after a marker reach past one more byte exactly when that byte is zero. -/
theorem markerAt_concat_of_lt (b : List Byte) (x : Byte) {i : Nat} (hi : i < b.length) :
    markerAt (b ++ [x]) i ↔ markerAt b i ∧ x = 0#8 := by
  simp only [markerAt, List.length_append, List.length_singleton, byteAt_append_left _ hi]
  constructor
  · rintro ⟨-, hmark, hzero⟩
    refine ⟨⟨hi, hmark, fun j hij hj => ?_⟩, ?_⟩
    · rw [← byteAt_append_left [x] hj]
      exact hzero j hij (by omega)
    · rw [← byteAt_concat_last b x]
      exact hzero b.length hi (by omega)
  · rintro ⟨⟨-, hmark, hzero⟩, rfl⟩
    refine ⟨by omega, hmark, fun j hij hj => ?_⟩
    obtain hlt | rfl := Nat.lt_succ_iff_lt_or_eq.1 hj
    · rw [byteAt_append_left _ hlt]
      exact hzero j hij hlt
    · exact byteAt_concat_last b _

/-- The last byte is the marker exactly when it is 0x80: no byte follows it. -/
theorem markerAt_concat_length (b : List Byte) (x : Byte) : markerAt (b ++ [x]) b.length ↔ x = 0x80#8 := by
  rw [markerAt, byteAt_concat_last, List.length_append, List.length_singleton]
  exact ⟨fun ⟨_, hmark, _⟩ => hmark, fun hmark => ⟨by omega, hmark, fun j hij hj => by omega⟩⟩

theorem markerAt_concat (b : List Byte) (x : Byte) (i : Nat) :
    markerAt (b ++ [x]) i ↔ markerAt b i ∧ x = 0#8 ∨ i = b.length ∧ x = 0x80#8 := by
  obtain hlt | rfl | hgt := Nat.lt_trichotomy i b.length
  · simp [markerAt_concat_of_lt b x hlt, hlt.ne]
  · simp [markerAt_concat_length, not_markerAt_of_length_le]
  · have hout : ¬markerAt (b ++ [x]) i := not_markerAt_of_length_le (by simpa using hgt)
    simp [hout, not_markerAt_of_length_le hgt.le, hgt.ne']

/-- The scan finds the marker, by induction on the string from its end. -/
theorem paddingIndex_eq_some_iff (b : List Byte) (i : Nat) : paddingIndex b = some i ↔ markerAt b i := by
  induction b using List.reverseRecOn with
  | nil => simp [not_markerAt_of_length_le]
  | append_singleton b x ih =>
    rw [markerAt_concat, ← ih]
    by_cases hx : x = 0#8
    · simp [hx, paddingIndex_concat_zero]
    · simp [hx, paddingIndex_concat_nonzero, eq_comm, and_comm]

/-- Settles O44: the byte the scan stops at is the marker, if it is 0x80. -/
theorem paddingIndexFindsTheMarker : Obligations.PaddingIndexFindsTheMarker := paddingIndex_eq_some_iff

end Sys2Proof.Machine

/-! ## Proofs for the family 41_blowfish.md: the Blowfish rounds, key schedule and commands, and WIPE -/

namespace Sys2Proof.Machine

/-! ### Bytes and words (00_scope.md R9, R10) -/

/-- A byte of a word by shift and mask. -/
theorem byteOf_toNat (k : Nat) (x : Word) : (byteOf k x).toNat = ((x >>> (8 * k)) &&& 0xFF#32).toNat := by
  rw [byteOf, BitVec.extractLsb'_toNat, BitVec.toNat_and, BitVec.toNat_ushiftRight]
  exact (Nat.and_two_pow_sub_one_eq_mod _ 8).symm

/-- The most significant byte needs no mask. -/
theorem byteOf_three_toNat (x : Word) : (byteOf 3 x).toNat = (x >>> 24).toNat := by
  rw [byteOf, BitVec.extractLsb'_toNat, BitVec.toNat_ushiftRight, Nat.shiftRight_eq_div_pow]
  exact Nat.mod_eq_of_lt (by omega)

/-- No bit of the four shifted bytes is lost, so the word is their concatenation. -/
theorem be32_eq_append (b0 b1 b2 b3 : Byte) : be32 b0 b1 b2 b3 = b0 ++ b1 ++ b2 ++ b3 := by
  have h0 := b0.isLt
  have h1 := b1.isLt
  have h2 := b2.isLt
  apply BitVec.eq_of_toNat_eq
  simp only [be32, BitVec.toNat_or, BitVec.toNat_shiftLeft, BitVec.toNat_setWidth, BitVec.toNat_append,
    Nat.shiftLeft_or_distrib, ← Nat.shiftLeft_add]
  simp (disch := omega) only [Nat.shiftLeft_eq, Nat.mod_eq_of_lt]

theorem le32_eq_append (b0 b1 b2 b3 : Byte) : le32 b0 b1 b2 b3 = b3 ++ b2 ++ b1 ++ b0 := by
  rw [← be32_eq_append]
  simp only [le32, be32, BitVec.or_comm, BitVec.or_assoc]

/-! ### Tables by index -/

theorem look_eq_get {w n : Nat} (t : Vector (BitVec w) n) (i : Fin n) : look t i = t.get i := by
  simp [look, Vector.get]

section
variable {t : Spec.BfTables} {k : BfSchedule}

theorem agrees_look_p (h : t.agrees k) {i : Nat} (hi : i < 18) : look k.p i = t.p i :=
  (look_eq_get k.p ⟨i, hi⟩).trans (h.1 ⟨i, hi⟩)

theorem agrees_look_s (h : t.agrees k) (b : Fin 4) {i : Nat} (hi : i < 256) : look (k.s.get b) i = t.s b i :=
  (look_eq_get (k.s.get b) ⟨i, hi⟩).trans (h.2 b ⟨i, hi⟩)

/-- `P[i] <- v` in both forms of a schedule. -/
theorem agrees_setP (h : t.agrees k) (i : Nat) (v : Word) :
    (t.setP i v).agrees { k with p := k.p.setIfInBounds i v } := by
  refine ⟨fun j => ?_, h.2⟩
  have hj := h.1 j
  simp only [Vector.get_eq_getElem] at hj ⊢
  rw [Vector.getElem_setIfInBounds, hj, Spec.BfTables.setP]
  simp only [eq_comm]

/-- `S[b][i] <- v` in both forms of a schedule. -/
theorem agrees_setS (h : t.agrees k) (b : Fin 4) (i : Nat) (v : Word) :
    (t.setS b i v).agrees { k with s := k.s.set b ((k.s.get b).setIfInBounds i v) } := by
  refine ⟨h.1, fun c j => ?_⟩
  have hj := h.2 c j
  by_cases hc : b = c
  · subst hc
    simp only [Vector.get_eq_getElem] at hj ⊢
    rw [Vector.getElem_set_self, Vector.getElem_setIfInBounds, hj, Spec.BfTables.setS]
    simp [eq_comm]
  · have hne : (b : Nat) ≠ c := fun he => hc (Fin.ext he)
    simp only [Vector.get_eq_getElem] at hj ⊢
    rw [Vector.getElem_set_ne _ _ hne, hj, Spec.BfTables.setS]
    simp [hne.symm]

/-- Two entries of one S-box. -/
theorem agrees_setS_setS (h : t.agrees k) (b : Fin 4) (i j : Nat) (v w : Word) :
    ((t.setS b i v).setS b j w).agrees
      { k with s := k.s.set b (((k.s.get b).setIfInBounds i v).setIfInBounds j w) } := by
  simpa [Vector.get_eq_getElem] using agrees_setS (agrees_setS h b i v) b j w

/-! ### The round function and the word transforms (R111 to R114) -/

theorem bfF_eq_spec (h : t.agrees k) (x : Word) : bfF k.s x = Spec.bfF t.s x := by
  have ha : look k.s[0] (byteOf 3 x).toNat = t.s 0 _ := agrees_look_s h 0 (byteOf 3 x).isLt
  have hb : look k.s[1] (byteOf 2 x).toNat = t.s 1 _ := agrees_look_s h 1 (byteOf 2 x).isLt
  have hc : look k.s[2] (byteOf 1 x).toNat = t.s 2 _ := agrees_look_s h 2 (byteOf 1 x).isLt
  have hd : look k.s[3] (byteOf 0 x).toNat = t.s 3 _ := agrees_look_s h 3 (byteOf 0 x).isLt
  simp only [bfF, ha, hb, hc, hd]
  rw [byteOf_three_toNat, byteOf_toNat, byteOf_toNat, byteOf_toNat, Spec.bfF, Nat.mul_zero, BitVec.ushiftRight_zero]

/-- The rounds over a list of round keys are the loop over the same keys by index. -/
theorem foldl_bfRound_eq_bfLoop (h : t.agrees k) (key : Nat → Word) (xl xr : Word) (n : Nat) :
    ((List.range n).map key).foldl (bfRound k.s) (xl, xr) = Spec.bfLoop t key xl xr n := by
  induction n with
  | zero => rfl
  | succ n ih =>
    rw [List.range_succ, List.map_append, List.foldl_append, ih]
    simp only [List.map_cons, List.map_nil, List.foldl_cons, List.foldl_nil, bfRound, bfF_eq_spec h, Spec.bfLoop]

/-- P[0] to P[15], in the order encryption takes them. -/
theorem take_p_eq_map (h : t.agrees k) : k.p.toList.take 16 = (List.range 16).map t.p := by
  refine List.ext_getElem (by simp) fun i hi _ => ?_
  have hi' : i < 18 := by simp at hi; omega
  have hp := agrees_look_p h hi'
  simpa [look, hi'] using hp

/-- P[17] down to P[2], in the order decryption takes them. -/
theorem reverse_drop_p_eq_map (h : t.agrees k) :
    (k.p.toList.drop 2).reverse = (List.range 16).map fun j => t.p (17 - j) := by
  refine List.ext_getElem (by simp) fun i hi _ => ?_
  have hi' : i < 16 := by simp at hi; omega
  have hp := agrees_look_p h (i := 17 - i) (by omega)
  have hk : 17 - i < k.p.toList.length := by rw [Vector.length_toList]; omega
  have hidx : 2 + (16 - 1 - i) = 17 - i := by omega
  rw [look, List.getD_eq_getElem _ _ hk] at hp
  simpa [List.getElem_reverse, hidx] using hp

theorem bfEncryptWords_eq_spec (h : t.agrees k) (xl xr : Word) : bfEncryptWords k xl xr = Spec.bfEncrypt t xl xr := by
  have h16 : k.p[16] = t.p 16 := h.1 16
  have h17 : k.p[17] = t.p 17 := h.1 17
  simp only [bfEncryptWords, take_p_eq_map h, foldl_bfRound_eq_bfLoop h, h16, h17, Spec.bfEncrypt]

theorem bfDecryptWords_eq_spec (h : t.agrees k) (xl xr : Word) : bfDecryptWords k xl xr = Spec.bfDecrypt t xl xr := by
  have h0 : k.p[0] = t.p 0 := h.1 0
  have h1 : k.p[1] = t.p 1 := h.1 1
  simp only [bfDecryptWords, reverse_drop_p_eq_map h, foldl_bfRound_eq_bfLoop h, h0, h1, Spec.bfDecrypt]

end

/-- Settles O32: F reads the bytes of its word by shift and mask, and the rounds are the loop over the keys by index. -/
theorem blowfishRoundsFollowTheRules : Obligations.BlowfishRoundsFollowTheRules :=
  fun _ _ xl xr h => ⟨bfF_eq_spec h xl, bfEncryptWords_eq_spec h xl xr, bfDecryptWords_eq_spec h xl xr⟩

/-- The entries of a schedule as tables given by index. -/
def BfSchedule.tables (k : BfSchedule) : Spec.BfTables :=
  { p := look k.p, s := fun b => look (k.s.get (Fin.ofNat 4 b)) }

theorem BfSchedule.tables_agrees (k : BfSchedule) : k.tables.agrees k := by
  refine ⟨fun i => (look_eq_get k.p i).symm, fun b i => ?_⟩
  simp only [BfSchedule.tables, Fin.ofNat_val_eq_self, look_eq_get]

/-- `j` passes of the loop of R113 undo the last `j` of `n` passes of the loop of R112: they lead from the output of `n`
passes, whitened and swapped, to that of `n - j`. -/
theorem bfLoop_reverse (t : Spec.BfTables) (xl xr : Word) {n j : Nat} (hj : j ≤ n) :
    Spec.bfLoop t (fun i => t.p (n + 1 - i)) ((Spec.bfLoop t t.p xl xr n).2 ^^^ t.p (n + 1))
        ((Spec.bfLoop t t.p xl xr n).1 ^^^ t.p n) j =
      ((Spec.bfLoop t t.p xl xr (n - j)).2 ^^^ t.p (n + 1 - j),
        (Spec.bfLoop t t.p xl xr (n - j)).1 ^^^ t.p (n - j)) := by
  induction j with
  | zero => rfl
  | succ j ih =>
    obtain ⟨m, hm⟩ : ∃ m, n - j = m + 1 := ⟨n - j - 1, by omega⟩
    have hm1 : n + 1 - j = m + 2 := by omega
    have hm2 : n + 1 - (j + 1) = m + 1 := by omega
    have hm3 : n - (j + 1) = m := by omega
    rw [Spec.bfLoop, ih (by omega), hm, hm1, hm2, hm3, Spec.bfLoop]
    -- F is applied to the same half twice and cancels
    simp [BitVec.xor_assoc]

theorem bfDecrypt_bfEncrypt (t : Spec.BfTables) (xl xr : Word) :
    Spec.bfDecrypt t (Spec.bfEncrypt t xl xr).1 (Spec.bfEncrypt t xl xr).2 = (xl, xr) := by
  have h := bfLoop_reverse t xl xr (n := 16) le_rfl
  simp only [Spec.bfDecrypt, Spec.bfEncrypt]
  rw [h]
  simp [Spec.bfLoop]

/-- Settles O34: it holds of the loops of the rules, which the two transforms are. -/
theorem blowfishDecryptInvertsEncrypt : Obligations.BlowfishDecryptInvertsEncrypt := by
  intro k xl xr
  rw [bfEncryptWords_eq_spec k.tables_agrees, bfDecryptWords_eq_spec k.tables_agrees, bfDecrypt_bfEncrypt]

/-! ### The key schedule (R124 to R127) -/

theorem bfKeyWord_eq_spec (key : List Byte) (i : Nat) : bfKeyWord key i = Spec.bfKeyWord key i :=
  be32_eq_append _ _ _ _

/-- The words of a segment of BF_INIT by their index in the whole. -/
theorem bfInit_segment {a b c : List Word} (h : bfInit = a ++ b ++ c) {n i : Nat} (ha : a.length = n)
    (hi : i < b.length) : bfInit.getD (n + i) 0#32 = b.getD i 0#32 := by
  subst ha
  rw [h, List.append_assoc, List.getD_append_right _ _ _ _ (by omega), List.getD_append _ _ _ _ (by omega),
    Nat.add_sub_cancel_left]

theorem get_mk_toArray {n : Nat} (l : List Word) (h : l.toArray.size = n) (i : Fin n) :
    (Vector.mk l.toArray h).get i = l.getD i 0#32 :=
  (List.getD_eq_getElem l 0#32 (lt_of_lt_of_eq i.isLt h.symm)).symm

@[simp] theorem bfInitP_length : bfInitP.length = 18 := by decide +kernel
@[simp] theorem bfInitS0_length : bfInitS0.length = 256 := by decide +kernel
@[simp] theorem bfInitS1_length : bfInitS1.length = 256 := by decide +kernel
@[simp] theorem bfInitS2_length : bfInitS2.length = 256 := by decide +kernel
@[simp] theorem bfInitS3_length : bfInitS3.length = 256 := by decide +kernel

/-- `P_INIT[i] = BF_INIT[i]` (R110). -/
theorem pInit_get (i : Fin 18) : pInit.get i = bfInit.getD i 0#32 := by
  have hP : bfInit = [] ++ bfInitP ++ (bfInitS0 ++ bfInitS1 ++ bfInitS2 ++ bfInitS3) := by
    simp only [bfInit, List.nil_append, List.append_assoc]
  have hseg := bfInit_segment hP (n := 0) (i := i) (by simp) (by simp)
  rw [pInit, get_mk_toArray, ← hseg, Nat.zero_add]

/-- `S_INIT[b][i] = BF_INIT[18 + 256*b + i]` (R110). -/
theorem sInit_get (b : Fin 4) (i : Fin 256) : (sInit.get b).get i = bfInit.getD (18 + 256 * b + i) 0#32 := by
  have h0 : bfInit = bfInitP ++ bfInitS0 ++ (bfInitS1 ++ bfInitS2 ++ bfInitS3) := by
    simp only [bfInit, List.append_assoc]
  have h1 : bfInit = (bfInitP ++ bfInitS0) ++ bfInitS1 ++ (bfInitS2 ++ bfInitS3) := by
    simp only [bfInit, List.append_assoc]
  have h2 : bfInit = (bfInitP ++ bfInitS0 ++ bfInitS1) ++ bfInitS2 ++ bfInitS3 := rfl
  have h3 : bfInit = (bfInitP ++ bfInitS0 ++ bfInitS1 ++ bfInitS2) ++ bfInitS3 ++ [] := (List.append_nil _).symm
  match b with
  | 0 => exact (get_mk_toArray bfInitS0 _ i).trans (bfInit_segment h0 (by simp) (by simp)).symm
  | 1 => exact (get_mk_toArray bfInitS1 _ i).trans (bfInit_segment h1 (by simp) (by simp)).symm
  | 2 => exact (get_mk_toArray bfInitS2 _ i).trans (bfInit_segment h2 (by simp) (by simp)).symm
  | 3 => exact (get_mk_toArray bfInitS3 _ i).trans (bfInit_segment h3 (by simp) (by simp)).symm

/-- The tables of R125 before its first encryption: BF_INIT with the key words in P. -/
def keyXorTables (key : List Byte) : Spec.BfTables :=
  { p := fun i => bfInit.getD i 0#32 ^^^ Spec.bfKeyWord key i
    s := fun b i => bfInit.getD (18 + 256 * b + i) 0#32 }

theorem keyXorTables_agrees (key : List Byte) : (keyXorTables key).agrees (bfKeyXor key) := by
  refine ⟨fun i => ?_, sInit_get⟩
  have hp := pInit_get i
  simp only [Vector.get_eq_getElem] at hp ⊢
  simp only [bfKeyXor, Vector.getElem_ofFn, keyXorTables, ← hp, bfKeyWord_eq_spec]
  rfl

/-- The rule's construction `c` and the model's `b` stand at the same schedule and the same last output. -/
structure SameBuild (c : Spec.BfBuild) (b : BfBuild) : Prop where
  agrees : c.t.agrees b.sched
  l : c.l = b.l
  r : c.r = b.r

section
variable {c : Spec.BfBuild} {b : BfBuild}

/-- The next encryption is the same in both constructions. -/
theorem SameBuild.encrypt_eq (h : SameBuild c b) : bfEncryptWords b.sched b.l b.r = Spec.bfEncrypt c.t c.l c.r := by
  rw [bfEncryptWords_eq_spec h.agrees, h.l, h.r]

theorem SameBuild.fillP (h : SameBuild c b) (n : Nat) :
    SameBuild (Spec.bfFillP c n) ((List.range n).foldl bfFillP b) := by
  induction n with
  | zero => exact h
  | succ n ih =>
    rw [List.range_succ, List.foldl_append, List.foldl_cons, List.foldl_nil, bfFillP, ih.encrypt_eq]
    exact ⟨agrees_setP (agrees_setP ih.agrees _ _) _ _, rfl, rfl⟩

theorem SameBuild.fillS (h : SameBuild c b) (box : Fin 4) (n : Nat) :
    SameBuild (Spec.bfFillS box c n) ((List.range n).foldl (bfFillS box) b) := by
  induction n with
  | zero => exact h
  | succ n ih =>
    rw [List.range_succ, List.foldl_append, List.foldl_cons, List.foldl_nil, bfFillS, ih.encrypt_eq]
    exact ⟨agrees_setS_setS ih.agrees box _ _ _ _, rfl, rfl⟩

end

/-- Settles O33: from the same initial tables, the loop over P and the four loops over S keep the schedules the same. -/
theorem blowfishKeyScheduleFollowsTheRule : Obligations.BlowfishKeyScheduleFollowsTheRule := by
  intro key _ _
  have h0 : SameBuild ⟨keyXorTables key, 0#32, 0#32⟩ ⟨bfKeyXor key, 0#32, 0#32⟩ :=
    ⟨keyXorTables_agrees key, rfl, rfl⟩
  have hfilled := ((((h0.fillP 9).fillS 0 128).fillS 1 128).fillS 2 128).fillS 3 128
  simp only [bfKeySchedule, List.foldl_cons, List.foldl_nil]
  exact hfilled.agrees

/-- The schedule is a function of the 18 key words: the encryptions begin from the key XOR (R125, R127). -/
theorem bfKeySchedule_congr {k k' : List Byte} (h : ∀ i, i < 18 → bfKeyWord k i = bfKeyWord k' i) :
    bfKeySchedule k = bfKeySchedule k' := by
  have hxor : bfKeyXor k = bfKeyXor k' := by
    simp only [bfKeyXor, h _ (Fin.isLt _)]
  simp only [bfKeySchedule, hxor]

/-- Read cyclically, K ++ K is K. -/
theorem byteAt_append_self_mod {k : List Byte} (hk : 0 < k.length) (m : Nat) :
    byteAt (k ++ k) (m % (k ++ k).length) = byteAt k (m % k.length) := by
  have hlen : (k ++ k).length = k.length * 2 := by rw [List.length_append]; omega
  have hlt : m % (k.length * 2) < k.length * 2 := Nat.mod_lt _ (by omega)
  have hmod : m % (k.length * 2) % k.length = m % k.length := Nat.mod_mul_right_mod m k.length 2
  rw [hlen, ← hmod]
  generalize m % (k.length * 2) = r at hlt
  by_cases hr : r < k.length
  · rw [byteAt_append_left k hr, Nat.mod_eq_of_lt hr]
  · rw [byteAt_append_right k (by omega), Nat.mod_eq_sub_mod (by omega), Nat.mod_eq_of_lt (by omega)]

/-- Settles O35: the key words determine the schedule, and K ++ K has the key words of K. -/
theorem equalKeyWordsGiveEqualSchedules : Obligations.EqualKeyWordsGiveEqualSchedules := by
  refine ⟨fun k k' h => bfKeySchedule_congr h, fun k hk _ => bfKeySchedule_congr fun i _ => ?_⟩
  simp only [bfKeyWord, byteAt_append_self_mod (k := k) (by omega)]

/-! ### Commands on data that end OK -/

/-- A command on data that passes its checks ends OK and stores its bytes at DST; nothing else changes but the count of
drawn bytes. -/
theorem exec_data_completes {i : Instr} {s : State} (ho : onData i.op) (hwf : s.mem.wf = true)
    (hc : dataChecks i.op i.engine s = none) (hn : reportedLength i.op i.engine s < 2 ^ 32) :
    ∃ t, exec i s = .next t ∧ endedWith s t .ok (reportedLength i.op i.engine s) ∧ sameButMemory s t ∧
      t.drawn = s.drawn + drawCount i.op i.engine s ∧ storedAt s t s.dst.toNat (storedBytes i.op i.engine s) := by
  refine ⟨dataEffect i.op i.engine s, by rw [exec_data ho, dataCommand_effect hc], ⟨rfl, ?_, rfl⟩,
    ⟨⟨rfl, rfl, rfl, rfl⟩, ⟨rfl, rfl, rfl⟩, rfl, rfl, rfl, rfl⟩, rfl, memWrite_storedAt hwf s.dst _⟩
  exact Nat.mod_eq_of_lt hn

theorem overlaps_eq_false_of_disjoint {a n b m : Nat} (h : disjoint a n b m) : overlaps a n b m = false := by
  rw [← Bool.not_eq_true, overlaps_iff]
  rintro ⟨x, hx⟩
  exact h x hx

/-- Word `j` of a string read from memory is the little-endian word at its address (20_memory.md R54). -/
theorem wordLe_memRead (s : State) (a : Word) {n j : Nat} (h : 4 * j + 3 < n) :
    wordLe (memRead s a n) j = memWord s (a.toNat + 4 * j) := by
  simp (disch := omega) only [wordLe, le32_eq_append, memRead, Memory.byteAt_readBytes, memWord, Nat.add_assoc]

/-- Settles O45: both commands pass their checks, and the block they transform holds the two words at SRC. -/
theorem blowfishBlockCommandsTransformOneBlock : Obligations.BlowfishBlockCommandsTransformOneBlock := by
  intro s hwf hk hsrc hdst hplace x y
  have hc : blockChecks .bf s = none :=
    blockChecks_none.2 ⟨hk, hsrc, hdst, hplace.imp_right overlaps_eq_false_of_disjoint⟩
  have hx : wordLe (memRead s s.src 8) 0 = x := wordLe_memRead s s.src (by decide)
  have hy : wordLe (memRead s s.src 8) 1 = y := wordLe_memRead s s.src (by decide)
  rw [← hx, ← hy]
  exact ⟨exec_data_completes (i := .bfEncb) ⟨by decide, by decide⟩ hwf hc (show 8 < 2 ^ 32 by decide),
    exec_data_completes (i := .bfDecb) ⟨by decide, by decide⟩ hwf hc (show 8 < 2 ^ 32 by decide)⟩

/-! ### KEYSET and WIPE -/

theorem keysetChecks_keyLength {lo hi : Nat} {s : State} (h : s.len.toNat < lo ∨ hi < s.len.toNat) :
    keysetChecks lo hi s = some .keyLength := if_pos h

theorem keysetChecks_bus {lo hi : Nat} {s : State} (h : lo ≤ s.len.toNat ∧ s.len.toNat ≤ hi)
    (hr : rangeOk s s.src.toNat s.len.toNat = false) : keysetChecks lo hi s = some .bus := by
  rw [keysetChecks, if_neg (by omega), hr]
  rfl

/-- Settles O28: what the checks answer in each case, and a KEYSET's two ways to end. -/
theorem bfKeysetLoadsOrFails : Obligations.BfKeysetLoadsOrFails := by
  intro s
  have hexec : exec .bfKeyset s = .next (keyset .bf s (keysetChecks 4 56 s) loadBf) := exec_keyset rfl s
  refine ⟨fun hlen => ?_, fun hlen hr => ?_, fun hlen hr => ?_⟩
  · rw [hexec, keyset_raise (keysetChecks_keyLength hlen)]
    rfl
  · rw [hexec, keyset_raise (keysetChecks_bus hlen hr)]
    rfl
  · rw [hexec, keyset_effect (keysetChecks_none.2 ⟨hlen, hr⟩)]
    rfl

theorem replicate_get {α : Type} {n : Nat} (v : α) (i : Fin n) : (Vector.replicate n v).get i = v := by
  rw [Vector.get_eq_getElem, Vector.getElem_replicate]

/-- Settles O31: WIPE leaves the zero schedule of its engine, whose every entry is 0. -/
theorem wipeZeroesTheSlot : Obligations.WipeZeroesTheSlot := by
  intro s
  refine ⟨⟨BfSchedule.zero, exec_wipe rfl s, fun i => replicate_get _ i, fun b i => ?_⟩,
    ⟨GostSchedule.zero, exec_wipe rfl s, fun i => replicate_get _ i, fun i => ?_⟩, exec_wipe rfl s⟩
  · rw [BfSchedule.zero, replicate_get, replicate_get]
  · exact ⟨replicate_get _ i, replicate_get _ i, replicate_get _ i, replicate_get _ i⟩

end Sys2Proof.Machine

/-! ## Proofs for the family 43_gost.md: the GOST key schedule, rounds and commands -/

namespace Sys2Proof.Machine

/-! ### The key schedule (R161, R165) -/

/-- Entry `i` of a packed table: `hi` at the high nibble of `i` above `lo` at the low nibble (R161). -/
theorem gostPack_get (hi lo : GostBox) (i : Byte) :
    (gostPack hi lo).get i.toFin = hi.get (i.extractLsb' 4 4).toFin ++ lo.get (i.extractLsb' 0 4).toFin := by
  have hdiv : i.toNat / 16 = (i.extractLsb' 4 4).toFin := by
    simp only [BitVec.val_toFin, BitVec.extractLsb'_toNat, Nat.shiftRight_eq_div_pow]
    omega
  have hmod : i.toNat % 16 = (i.extractLsb' 0 4).toFin := by simp
  rw [BitVec.append_def, BitVec.shiftLeftZeroExtend_eq, BitVec.setWidth'_eq, ← look_eq_get hi, ← look_eq_get lo, ← hdiv,
    ← hmod]
  simp [gostPack, Vector.get_eq_getElem]

/-- Settles O36: each key word is the concatenation of its bytes, and the four tables are packed alike. -/
theorem gostKeyScheduleFollowsTheRules : Obligations.GostKeyScheduleFollowsTheRules := by
  intro key _
  refine ⟨fun j => ?_, fun i => ⟨gostPack_get _ _ i, gostPack_get _ _ i, gostPack_get _ _ i, gostPack_get _ _ i⟩⟩
  rw [gostKeySchedule, Vector.get_ofFn, wordLe, le32_eq_append]

/-! ### The round function and the word transforms (R162 to R164) -/

theorem rotl32_eq_rotateLeft (x : Word) {n : Nat} (h : n < 32) : rotl32 x n = x.rotateLeft n := by
  rw [rotl32, BitVec.rotateLeft_def, Nat.mod_eq_of_lt h]

/-- The word re-packed from the four table bytes is their concatenation. -/
theorem gostF_eq_spec (k : GostSchedule) (x : Word) : gostF k x = Spec.gostF k x := by
  have ha := look_eq_get k.t87 (byteOf 3 x).toFin
  have hb := look_eq_get k.t65 (byteOf 2 x).toFin
  have hc := look_eq_get k.t43 (byteOf 1 x).toFin
  have hd := look_eq_get k.t21 (byteOf 0 x).toFin
  simp only [BitVec.val_toFin] at ha hb hc hd
  simp only [gostF, ha, hb, hc, hd]
  rw [← be32, be32_eq_append, rotl32_eq_rotateLeft _ (by decide)]
  rfl

/-- The first pass of the loop apart from the rest, which takes the order from its third entry on. -/
theorem gostLoop_succ_front (k : GostSchedule) (ord : Nat → Fin 8) (n1 n2 : Word) (n : Nat) :
    Spec.gostLoop k ord n1 n2 (n + 1) =
      Spec.gostLoop k (fun i => ord (i + 2)) (Spec.gostLoop k ord n1 n2 1).1 (Spec.gostLoop k ord n1 n2 1).2 n := by
  induction n with
  | zero => rfl
  | succ n ih => rw [Spec.gostLoop, ih, Spec.gostLoop]; rfl

/-- The rounds over a list of key indices are the loop over the same order by index. -/
theorem gostRounds_eq_gostLoop (k : GostSchedule) (ord : Nat → Fin 8) (n1 n2 : Word) (n : Nat) :
    gostRounds k ((List.range (2 * n)).map fun i => (ord i : Nat)) n1 n2 = Spec.gostLoop k ord n1 n2 n := by
  induction n generalizing ord n1 n2 with
  | zero => rfl
  | succ n ih =>
    rw [gostLoop_succ_front, ← ih, Nat.mul_succ, List.range_succ_eq_map, List.range_succ_eq_map]
    simp only [List.map_cons, List.map_map, gostRounds, look_eq_get, gostF_eq_spec]
    rfl

theorem gostEncOrder_eq_map : gostEncOrder = (List.range (2 * 16)).map fun i => (Spec.gostEncOrder i : Nat) := by decide

theorem gostDecOrder_eq_map : gostDecOrder = (List.range (2 * 16)).map fun i => (Spec.gostDecOrder i : Nat) := by decide

theorem gostEncryptWords_eq_spec (k : GostSchedule) (n1 n2 : Word) : gostEncryptWords k n1 n2 =
    ((Spec.gostLoop k Spec.gostEncOrder n1 n2 16).2, (Spec.gostLoop k Spec.gostEncOrder n1 n2 16).1) := by
  rw [gostEncryptWords, gostCryptWords, gostEncOrder_eq_map, gostRounds_eq_gostLoop]

theorem gostDecryptWords_eq_spec (k : GostSchedule) (n1 n2 : Word) : gostDecryptWords k n1 n2 =
    ((Spec.gostLoop k Spec.gostDecOrder n1 n2 16).2, (Spec.gostLoop k Spec.gostDecOrder n1 n2 16).1) := by
  rw [gostDecryptWords, gostCryptWords, gostDecOrder_eq_map, gostRounds_eq_gostLoop]

/-- Settles O37: the round function re-packs by concatenation, and the rounds are the loop over the orders by index. -/
theorem gostRoundsFollowTheRules : Obligations.GostRoundsFollowTheRules :=
  fun k n1 n2 => ⟨gostF_eq_spec k n1, gostEncryptWords_eq_spec k n1 n2, gostDecryptWords_eq_spec k n1 n2⟩

/-! ### Decryption inverts encryption (R167) -/

/-- DEC_ORDER is ENC_ORDER read backwards (R163). -/
theorem gostDecOrder_eq_reverse (i : Nat) : Spec.gostDecOrder i = Spec.gostEncOrder (31 - i) := by
  by_cases hi : i < 8
  · have hsub : 31 - (31 - i) = i := by omega
    rw [Spec.gostDecOrder, if_pos hi, Spec.gostEncOrder, if_neg (by omega), hsub]
  · rw [Spec.gostDecOrder, if_neg hi, Spec.gostEncOrder, if_pos (by omega)]

/-- `j` passes over the reversed order undo the last `j` of `n` passes: from the output of `n` passes with its halves
exchanged they lead to that of `n - j`, halves exchanged. -/
theorem gostLoop_reverse (k : GostSchedule) (ord : Nat → Fin 8) (n1 n2 : Word) {n j : Nat} (hj : j ≤ n) :
    Spec.gostLoop k (fun i => ord (2 * n - 1 - i)) (Spec.gostLoop k ord n1 n2 n).2 (Spec.gostLoop k ord n1 n2 n).1 j =
      ((Spec.gostLoop k ord n1 n2 (n - j)).2, (Spec.gostLoop k ord n1 n2 (n - j)).1) := by
  induction j with
  | zero => rfl
  | succ j ih =>
    obtain ⟨m, hm⟩ : ∃ m, n - j = m + 1 := ⟨n - j - 1, by omega⟩
    have hm0 : n - (j + 1) = m := by omega
    have hm1 : 2 * n - 1 - 2 * j = 2 * m + 1 := by omega
    have hm2 : 2 * n - 1 - (2 * j + 1) = 2 * m := by omega
    rw [Spec.gostLoop, ih (by omega), hm, hm0, hm1, hm2, Spec.gostLoop]
    -- f is applied to the same half twice and cancels
    simp

/-- Settles O38: decryption is the 16 passes over the reversed order, which undo those of encryption. -/
theorem gostDecryptInvertsEncrypt : Obligations.GostDecryptInvertsEncrypt := by
  intro k n1 n2
  have hrev := gostLoop_reverse k Spec.gostEncOrder n1 n2 (n := 16) le_rfl
  rw [gostEncryptWords_eq_spec, gostDecryptWords_eq_spec, funext gostDecOrder_eq_reverse, hrev]
  rfl

/-! ### Block commands (R168, R182, R183) -/

/-- A block command on a VALID slot with admitted ranges, in place or without overlap, ends OK and stores one transformed
block at DST; nothing else changes. -/
theorem exec_block_completes {i : Instr} {s : State} (ho : i.op = .encb ∨ i.op = .decb) (hwf : s.mem.wf = true)
    (hk : s.ks i.engine = .valid) (hsrc : rangeOk s s.src.toNat (blockLen i.engine) = true)
    (hdst : rangeOk s s.dst.toNat (blockLen i.engine) = true)
    (hplace : s.src = s.dst ∨ disjoint s.src.toNat (blockLen i.engine) s.dst.toNat (blockLen i.engine)) :
    ∃ t, exec i s = .next t ∧ endedWith s t .ok (blockLen i.engine) ∧ sameButMemory s t ∧ t.drawn = s.drawn ∧
      storedAt s t s.dst.toNat (storedBytes i.op i.engine s) := by
  have hc : blockChecks i.engine s = none :=
    blockChecks_none.2 ⟨hk, hsrc, hdst, hplace.imp_right overlaps_eq_false_of_disjoint⟩
  have hlen : blockLen i.engine < 2 ^ 32 := by cases i.engine <;> decide
  have hrun := exec_data_completes (i := i) (s := s) (hwf := hwf)
  obtain ho | ho := ho
  · rw [ho] at hrun ⊢
    exact hrun ⟨by decide, by decide⟩ hc hlen
  · rw [ho] at hrun ⊢
    exact hrun ⟨by decide, by decide⟩ hc hlen

/-- Settles O46: both are block commands, and the block they transform holds the two words at SRC. -/
theorem gostBlockCommandsTransformOneBlock : Obligations.GostBlockCommandsTransformOneBlock := by
  intro s hwf hk hsrc hdst hplace x y
  have hx : wordLe (memRead s s.src 8) 0 = x := wordLe_memRead s s.src (by decide)
  have hy : wordLe (memRead s s.src 8) 1 = y := wordLe_memRead s s.src (by decide)
  rw [← hx, ← hy]
  exact ⟨exec_block_completes (i := .gostEncb) (.inl rfl) hwf hk hsrc hdst hplace,
    exec_block_completes (i := .gostDecb) (.inr rfl) hwf hk hsrc hdst hplace⟩

/-! ### KEYSET (R166, R180) -/

/-- Settles O29: what the checks answer in each case, and a KEYSET's two ways to end. -/
theorem gostKeysetLoadsOrFails : Obligations.GostKeysetLoadsOrFails := by
  intro s
  have hexec : exec .gostKeyset s = .next (keyset .gost s (keysetChecks 32 32 s) loadGost) := exec_keyset rfl s
  refine ⟨fun hlen => ?_, fun hlen hr => ?_, fun hlen hr => ?_⟩
  · rw [hexec, keyset_raise (keysetChecks_keyLength (by omega))]
    rfl
  · rw [hexec, keyset_raise (keysetChecks_bus ⟨hlen.ge, hlen.le⟩ (by rwa [hlen]))]
    rfl
  · rw [hexec, keyset_effect (keysetChecks_none.2 ⟨⟨hlen.ge, hlen.le⟩, by rwa [hlen]⟩)]
    rfl

end Sys2Proof.Machine

/-! ## Proofs for the family 44_threeway.md: the 3-Way layers, rounds and commands -/

namespace Sys2Proof

/-! ### A triple as a ring of 96 bits (44_threeway.md R200)

θ and μ move bits across the words of a triple. On the 96 bits of the whole triple, read as a ring, they are simple: θ adds
seven rotations and μ reverses. -/

/-- Bit `i` of the ring: the bits of a0 from 0 on, those of a1 from 32 on and those of a2 from 64 on. -/
def Triple.bit (a : Triple) (i : Nat) : Bool := (a.a2 ++ (a.a1 ++ a.a0)).getLsbD (i % 96)

/-- The triple whose words are those of `a` from a1 on. -/
def Triple.rot (a : Triple) : Triple := ⟨a.a1, a.a2, a.a0⟩

namespace Triple

variable (a : Triple)

theorem bit_word0 {i : Nat} (h : i < 32) : a.bit i = a.a0.getLsbD i := by
  rw [bit, Nat.mod_eq_of_lt (by omega), BitVec.getLsbD_append, if_pos (by omega), BitVec.getLsbD_append, if_pos h]

theorem bit_word1 {i : Nat} (h : i < 32) : a.bit (i + 32) = a.a1.getLsbD i := by
  rw [bit, Nat.mod_eq_of_lt (by omega), BitVec.getLsbD_append, if_pos (by omega), BitVec.getLsbD_append,
    if_neg (by omega), Nat.add_sub_cancel]

theorem bit_word2 {i : Nat} (h : i < 32) : a.bit (i + 64) = a.a2.getLsbD i := by
  rw [bit, Nat.mod_eq_of_lt (by omega), BitVec.getLsbD_append, if_neg (by omega), Nat.add_sub_cancel]

theorem bit_mod (i : Nat) : a.bit (i % 96) = a.bit i := by rw [bit, Nat.mod_mod, bit]

theorem bit_add_ring (i n : Nat) : a.bit (i + (n + 96)) = a.bit (i + n) := by
  rw [← bit_mod, ← Nat.add_assoc, Nat.add_mod_right, bit_mod]

/-- Each bit of the ring is a bit of one word. -/
theorem forall_bit {p : Nat → Prop} (h0 : ∀ i < 32, p i) (h1 : ∀ i < 32, p (i + 32)) (h2 : ∀ i < 32, p (i + 64)) :
    ∀ i < 96, p i := by
  intro i hi
  by_cases hlt : i < 32
  · exact h0 i hlt
  · by_cases hlt' : i < 64
    · simpa [show i - 32 + 32 = i by omega] using h1 (i - 32) (by omega)
    · simpa [show i - 64 + 64 = i by omega] using h2 (i - 64) (by omega)

variable {a} in
theorem eq_of_bit_eq {b : Triple} (h : ∀ i < 96, a.bit i = b.bit i) : a = b := by
  obtain ⟨a0, a1, a2⟩ := a
  obtain ⟨b0, b1, b2⟩ := b
  have h0 : a0 = b0 := BitVec.eq_of_getLsbD_eq fun i hi => by
    simpa only [bit_word0 _ hi] using h i (by omega)
  have h1 : a1 = b1 := BitVec.eq_of_getLsbD_eq fun i hi => by
    simpa only [bit_word1 _ hi] using h (i + 32) (by omega)
  have h2 : a2 = b2 := BitVec.eq_of_getLsbD_eq fun i hi => by
    simpa only [bit_word2 _ hi] using h (i + 64) (by omega)
  rw [h0, h1, h2]

theorem bit_rot (i : Nat) : a.rot.bit i = a.bit (i + 32) := by
  have key : ∀ i < 96, a.rot.bit i = a.bit (i + 32) := by
    refine forall_bit (fun i hi => ?_) (fun i hi => ?_) fun i hi => ?_
    · rw [bit_word0 _ hi, bit_word1 _ hi, rot]
    · rw [bit_word1 _ hi, bit_word2 _ hi, rot]
    · rw [bit_word2 _ hi, Nat.add_assoc, bit_add_ring _ i 0, Nat.add_zero, bit_word0 _ hi, rot]
  rw [← bit_mod, key _ (Nat.mod_lt _ (by decide)), bit, Nat.mod_add_mod, bit]

/-- A word taken across the boundary of a0 and a1. -/
theorem getLsbD_straddle {i n : Nat} (hi : i < 32) (hn : n < 32) :
    (a.a0 >>> n ^^^ a.a1 <<< (32 - n)).getLsbD i = a.bit (i + n) := by
  rw [BitVec.getLsbD_xor, BitVec.getLsbD_ushiftRight, BitVec.getLsbD_shiftLeft]
  by_cases h : i + n < 32
  · rw [bit_word0 _ h]
    simp [show i < 32 - n by omega, Nat.add_comm]
  · have hidx : i + n = i - (32 - n) + 32 := by omega
    rw [hidx, bit_word1 _ (by omega), BitVec.getLsbD_of_ge _ _ (by omega)]
    simp [hi, show ¬ i < 32 - n by omega]

end Triple

end Sys2Proof

namespace Sys2Proof.Machine

/-! ### μ (R202) -/

/-- `t` iterations move the low `t` bits of `a`, reversed, below those of `b`. -/
theorem getLsbD_twMuLoop (t : Nat) (b a : Word) {i : Nat} (hi : i < 32) :
    (twMuLoop t b a).getLsbD i = if i < t then a.getLsbD (t - 1 - i) else b.getLsbD (i - t) := by
  induction t generalizing b a with
  | zero => rfl
  | succ t ih =>
    rw [twMuLoop, ih]
    obtain hlt | rfl | hgt := Nat.lt_trichotomy i t
    · rw [if_pos hlt, if_pos (by omega), BitVec.getLsbD_ushiftRight]
      congr 1
      omega
    · simp
    · have hsucc : i - t = i - (t + 1) + 1 := by omega
      rw [if_neg (by omega), if_neg (by omega), hsucc]
      simp only [BitVec.getLsbD_or, BitVec.getLsbD_shiftLeft, BitVec.getLsbD_and, BitVec.getLsbD_one]
      simp [show i - (t + 1) + 1 < 32 by omega]

theorem getLsbD_reverse_word (x : Word) {i : Nat} (h : i < 32) : x.reverse.getLsbD i = x.getLsbD (31 - i) := by
  rw [BitVec.getLsbD_reverse, BitVec.getMsbD_eq_getLsbD, decide_eq_true h, Bool.true_and]

theorem twMuLoop_eq_reverse (a : Word) : twMuLoop 32 0#32 a = a.reverse := by
  refine BitVec.eq_of_getLsbD_eq fun i hi => ?_
  rw [getLsbD_twMuLoop _ _ _ hi, if_pos hi, getLsbD_reverse_word a hi]

theorem twMu_eq_reverse (a : Triple) : twMu a = ⟨a.a2.reverse, a.a1.reverse, a.a0.reverse⟩ := by
  simp only [twMu, twMuLoop_eq_reverse]

theorem twMu_twMu (a : Triple) : twMu (twMu a) = a := by
  simp only [twMu_eq_reverse, BitVec.reverse_reverse_eq]

/-- Settles O40: the loop of 32 iterations is the reversal of a word. -/
theorem muReversesTheBits : Obligations.MuReversesTheBits := by
  intro a
  refine ⟨fun i hi => ?_, twMu_twMu a⟩
  rw [twMu_eq_reverse]
  exact ⟨getLsbD_reverse_word _ hi, getLsbD_reverse_word _ hi, getLsbD_reverse_word _ hi⟩

/-- μ reverses the ring. -/
theorem bit_twMu (a : Triple) : ∀ i < 96, (twMu a).bit i = a.bit (95 - i) := by
  rw [twMu_eq_reverse]
  refine Triple.forall_bit (fun i hi => ?_) (fun i hi => ?_) fun i hi => ?_
  · rw [Triple.bit_word0 _ hi, getLsbD_reverse_word _ hi, show 95 - i = 31 - i + 64 by omega,
      Triple.bit_word2 _ (by omega)]
  · rw [Triple.bit_word1 _ hi, getLsbD_reverse_word _ hi, show 95 - (i + 32) = 31 - i + 32 by omega,
      Triple.bit_word1 _ (by omega)]
  · rw [Triple.bit_word2 _ hi, getLsbD_reverse_word _ hi, show 95 - (i + 64) = 31 - i by omega,
      Triple.bit_word0 _ (by omega)]

/-- An offset from `i` is the opposite offset from the mirror image of `i`. -/
theorem bit_twMu_add (a : Triple) {i n : Nat} (hi : i < 96) (hn : n ≤ 96) :
    (twMu a).bit (i + n) = a.bit (95 - i + (96 - n)) := by
  rw [← Triple.bit_mod, bit_twMu _ _ (Nat.mod_lt _ (by decide)), ← Triple.bit_mod, ← Triple.bit_mod a (_ + _)]
  congr 1
  omega

/-! ### θ (R203) -/

/-- Seven rotations of a ring of bits, added. -/
def ringTheta (f : Nat → Bool) (i : Nat) : Bool :=
  f i ^^ f (i + 16) ^^ f (i + 48) ^^ f (i + 56) ^^ f (i + 72) ^^ f (i + 80) ^^ f (i + 88)

theorem ringTheta_rot (a : Triple) (i : Nat) : ringTheta a.rot.bit i = ringTheta a.bit (i + 32) := by
  simp only [ringTheta, Triple.bit_rot, Nat.add_right_comm i _ 32]

/-- The expression for b0 joins its shifts in pairs, each a word of the ring. -/
theorem getLsbD_twThetaWord (a : Triple) {i : Nat} (hi : i < 32) :
    (twThetaWord a.a0 a.a1 a.a2).getLsbD i = ringTheta a.bit i := by
  have h16 := a.getLsbD_straddle hi (n := 16) (by decide)
  have h48 := a.rot.getLsbD_straddle hi (n := 16) (by decide)
  have h56 := a.rot.getLsbD_straddle hi (n := 24) (by decide)
  have h72 := a.rot.rot.getLsbD_straddle hi (n := 8) (by decide)
  have h80 := a.rot.rot.getLsbD_straddle hi (n := 16) (by decide)
  have h88 := a.rot.rot.getLsbD_straddle hi (n := 24) (by decide)
  simp only [Triple.bit_rot, Nat.add_assoc, Nat.reduceAdd] at h48 h56 h72 h80 h88
  rw [ringTheta, a.bit_word0 hi, ← h16, ← h48, ← h56, ← h72, ← h80, ← h88]
  simp only [twThetaWord, Triple.rot, BitVec.getLsbD_xor, Nat.reduceSub, Bool.xor_assoc]

/-- The three words of θ are one expression, read from a0, a1 and a2 on (R203). -/
theorem bit_twTheta (a : Triple) (i : Nat) : (twTheta a).bit i = ringTheta a.bit i := by
  have hring : ∀ i < 96, (twTheta a).bit i = ringTheta a.bit i := by
    refine Triple.forall_bit (fun i hi => ?_) (fun i hi => ?_) fun i hi => ?_
    · rw [Triple.bit_word0 _ hi, ← getLsbD_twThetaWord a hi, twTheta]
    · rw [Triple.bit_word1 _ hi, ← ringTheta_rot, ← getLsbD_twThetaWord a.rot hi, twTheta, Triple.rot]
    · rw [Triple.bit_word2 _ hi, ← Nat.add_assoc i 32 32, ← ringTheta_rot, ← ringTheta_rot,
        ← getLsbD_twThetaWord a.rot.rot hi, twTheta, Triple.rot, Triple.rot]
  have hmod := hring (i % 96) (Nat.mod_lt _ (by decide))
  simpa only [ringTheta, Triple.bit, Nat.mod_mod, Nat.mod_add_mod] using hmod

/-! ### Bits as the field of two elements

XOR is its addition, so that `grind` normalises a sum of bits. -/

theorem xor_eq_add (a b : Bool) : (a ^^ b) = a + b := rfl

theorem charP_bool : CharP Bool 2 := CharTwo.of_one_ne_zero_of_two_eq_zero (by decide) rfl

/-- θ μ θ = μ: μ negates the seven offsets of θ, and of the 49 differences of two of them each but 0 occurs an even
number of times. -/
theorem twTheta_twMu_twTheta (a : Triple) : twTheta (twMu (twTheta a)) = twMu a := by
  refine Triple.eq_of_bit_eq fun i hi => ?_
  rw [bit_twTheta, ringTheta, bit_twMu _ _ hi, bit_twMu _ _ hi]
  simp (disch := omega) only [bit_twMu_add, bit_twTheta]
  generalize 95 - i = j
  simp only [ringTheta, Nat.add_assoc, Nat.reduceAdd, Nat.reduceSub, Triple.bit_add_ring, Nat.add_zero, xor_eq_add]
  have := charP_bool
  grind

/-! ### γ, π₁, π₂ and ρ (R201, R204, R205) -/

/-- The words of γ μ γ, bit by bit: γ is inverted by γ between two reversals. -/
theorem gamma_word_reverse (x y z : Word) :
    ~~~(~~~x ^^^ (~~~y &&& z)).reverse ^^^ (~~~(~~~z ^^^ (~~~x &&& y)).reverse &&& (~~~y ^^^ (~~~z &&& x)).reverse) =
      x.reverse := by
  refine BitVec.eq_of_getLsbD_eq fun i hi => ?_
  have hj : 31 - i < 32 := by omega
  simp only [BitVec.getLsbD_xor, BitVec.getLsbD_not, BitVec.getLsbD_and, getLsbD_reverse_word _ hi, hi, hj, decide_true,
    Bool.true_and]
  cases x.getLsbD (31 - i) <;> cases y.getLsbD (31 - i) <;> cases z.getLsbD (31 - i) <;> rfl

/-- γ μ γ = μ. -/
theorem twGamma_twMu_twGamma (a : Triple) : twGamma (twMu (twGamma a)) = twMu a := by
  simp only [twMu_eq_reverse, twGamma, gamma_word_reverse]

theorem getLsbD_rotl32 (x : Word) {n i : Nat} (hn : n < 32) (hi : i < 32) :
    (rotl32 x n).getLsbD i = if i < n then x.getLsbD (32 - n + i) else x.getLsbD (i - n) := by
  rw [rotl32_eq_rotateLeft _ hn, BitVec.getLsbD_rotateLeft, Nat.mod_eq_of_lt hn, decide_eq_true hi, Bool.true_and,
    Bool.cond_decide]

/-- Reversal turns a rotation into its inverse. -/
theorem rotl32_reverse_rotl32 (x : Word) {n : Nat} (hn : n < 32) : rotl32 (rotl32 x n).reverse n = x.reverse := by
  refine BitVec.eq_of_getLsbD_eq fun i hi => ?_
  rw [getLsbD_rotl32 _ hn hi, getLsbD_reverse_word _ hi]
  split_ifs with h
  · rw [getLsbD_reverse_word _ (by omega), getLsbD_rotl32 _ hn (by omega), if_pos (by omega)]
    congr 1
    omega
  · rw [getLsbD_reverse_word _ (by omega), getLsbD_rotl32 _ hn (by omega), if_neg (by omega)]
    congr 1
    omega

theorem twPi1_twMu_twPi2 (a : Triple) : twPi1 (twMu (twPi2 a)) = twMu a := by
  simp (disch := decide) only [twMu_eq_reverse, twPi1, twPi2, rotl32_reverse_rotl32]

theorem twPi2_twMu_twPi1 (a : Triple) : twPi2 (twMu (twPi1 a)) = twMu a := by
  simp (disch := decide) only [twMu_eq_reverse, twPi1, twPi2, rotl32_reverse_rotl32]

/-- The layers of two rounds cancel in pairs around μ. -/
theorem twRho_twMu_twTheta_twRho (a : Triple) : twRho (twMu (twTheta (twRho a))) = twMu (twTheta a) := by
  simp only [twRho, twTheta_twMu_twTheta, twPi1_twMu_twPi2, twGamma_twMu_twGamma, twPi2_twMu_twPi1]

/-- Settles O39: the model's rotation is the library's; the other layers are their formulas by definition. -/
theorem threeWayLayersAreTheFormulas : Obligations.ThreeWayLayersAreTheFormulas := by
  intro a0 a1 a2 k0 k1 k2 c
  refine ⟨rfl, rfl, ?_, ?_, rfl, rfl⟩
  · rw [twPi1, rotl32_eq_rotateLeft _ (by decide), rotl32_eq_rotateLeft _ (by decide)]
  · rw [twPi2, rotl32_eq_rotateLeft _ (by decide), rotl32_eq_rotateLeft _ (by decide)]

/-! ### The rounds (R206 to R209) -/

/-- Folding over the first `n` constants of a table is `n` passes of the loop over it. -/
theorem foldl_take_eq_twLoop (k a : Triple) {rc : List Word} {n : Nat} (hn : n ≤ rc.length) :
    (rc.take n).foldl (fun x c => twRho (twAddRK k x c)) a = Spec.twLoop k rc a n := by
  induction n with
  | zero => rfl
  | succ n ih =>
    rw [List.take_add_one, List.foldl_append, ih (by omega), List.getElem?_eq_getElem hn, Spec.twLoop,
      List.getD_eq_getElem _ _ hn]
    rfl

theorem twErcon_eq : twErcon = Spec.ercon := by decide

theorem twDrcon_eq : twDrcon = Spec.drcon := by decide

theorem twEncryptWords_eq_twLoop (k a : Triple) :
    twEncryptWords k a = twTheta (twAddRK k (Spec.twLoop k Spec.ercon a 11) 0x8d8d#32) := by
  rw [twEncryptWords, twRounds, twErcon_eq, foldl_take_eq_twLoop k a (by decide)]
  rfl

theorem twDecryptWords_eq_twLoop (k a : Triple) :
    twDecryptWords k a = twMu (twTheta (twAddRK k (Spec.twLoop k Spec.drcon (twMu a) 11) 0xd0d0#32)) := by
  rw [twDecryptWords, twRounds, twDrcon_eq, foldl_take_eq_twLoop k _ (by decide)]
  rfl

/-- Settles O41: the generator yields the listed words, and the fold over a table is the loop over it by index. -/
theorem threeWayRoundsFollowTheRules : Obligations.ThreeWayRoundsFollowTheRules :=
  fun k a => ⟨twErcon_eq, twDrcon_eq, twEncryptWords_eq_twLoop k a, twDecryptWords_eq_twLoop k a⟩

/-! ### Decryption inverts encryption (R213) -/

/-- What AddRK adds beside the key for the round constant `c` (R207). -/
def rconTriple (c : Word) : Triple := ⟨c <<< 16, 0#32, c⟩

theorem bit_twAddRK (k a : Triple) (c : Word) (i : Nat) :
    (twAddRK k a c).bit i = (a.bit i ^^ k.bit i ^^ (rconTriple c).bit i) := by
  simp only [Triple.bit, twAddRK, rconTriple, BitVec.getLsbD_append, BitVec.getLsbD_xor, BitVec.getLsbD_zero]
  split_ifs <;> simp

/-- The decryption constant `d` undoes the encryption constant `e` when μ and θ lead from one to the other. -/
def rconMatch (e d : Word) : Prop := twMu (twTheta (rconTriple e)) = rconTriple d

/-- The decryption key with a matching constant removes the encryption key through μ and θ. -/
theorem twAddRK_twMu_twTheta (k a : Triple) {e d : Word} (h : rconMatch e d) :
    twAddRK (twMu (twTheta k)) (twMu (twTheta (twAddRK k a e))) d = twMu (twTheta a) := by
  refine Triple.eq_of_bit_eq fun i hi => ?_
  rw [bit_twAddRK, ← h]
  simp only [bit_twMu _ _ hi, bit_twTheta, ringTheta, bit_twAddRK, xor_eq_add]
  have := charP_bool
  grind

/-- `j` rounds of decryption undo the last `j` of `n` rounds of encryption. -/
theorem twLoop_reverse (k a : Triple) {re rd : List Word} {n j : Nat} (hj : j ≤ n)
    (h : ∀ i ≤ n, rconMatch (re.getD (n - i) 0#32) (rd.getD i 0#32)) :
    Spec.twLoop (twMu (twTheta k)) rd (twMu (twTheta (twAddRK k (Spec.twLoop k re a n) (re.getD n 0#32)))) j =
      twMu (twTheta (twAddRK k (Spec.twLoop k re a (n - j)) (re.getD (n - j) 0#32))) := by
  induction j with
  | zero => rfl
  | succ j ih =>
    obtain ⟨m, hm⟩ : ∃ m, n - j = m + 1 := ⟨n - j - 1, by omega⟩
    have hm' : n - (j + 1) = m := by omega
    rw [Spec.twLoop, ih (by omega), twAddRK_twMu_twTheta k _ (h j (by omega)), hm, hm', Spec.twLoop,
      twRho_twMu_twTheta_twRho]

/-- DRCON read backwards matches ERCON. -/
theorem ercon_match_drcon : ∀ i ≤ 11, rconMatch (Spec.ercon.getD (11 - i) 0#32) (Spec.drcon.getD i 0#32) := by
  unfold rconMatch
  decide +kernel

/-- Settles O42: the 11 rounds of decryption undo those of encryption around μ and θ, its last key addition undoes the first
one, and μ θ is its own inverse. -/
theorem threeWayDecryptInvertsEncrypt : Obligations.ThreeWayDecryptInvertsEncrypt := by
  intro k a
  have hfirst : rconMatch 0x0b0b#32 0xd0d0#32 := ercon_match_drcon 11 le_rfl
  have hrev : Spec.twLoop (twMu (twTheta k)) Spec.drcon
      (twMu (twTheta (twAddRK k (Spec.twLoop k Spec.ercon a 11) 0x8d8d#32))) 11 =
      twMu (twTheta (twAddRK k a 0x0b0b#32)) := twLoop_reverse k a le_rfl ercon_match_drcon
  rw [twDecryptWords_eq_twLoop, twEncryptWords_eq_twLoop, hrev, twAddRK_twMu_twTheta k a hfirst, twTheta_twMu_twTheta,
    twMu_twMu]

/-! ### Commands (R212, R214, R230, R232, R233) -/

/-- Settles O47: both are block commands, and the block they transform holds the three words at SRC. -/
theorem threeWayBlockCommandsTransformOneBlock : Obligations.ThreeWayBlockCommandsTransformOneBlock := by
  intro s hwf hk hsrc hdst hplace a c d
  have ha : twTriple (memRead s s.src 12) = a := by
    simp (disch := decide) only [twTriple, wordLe_memRead, Nat.mul_zero, Nat.add_zero, Nat.reduceMul, a]
  simp only [c, d, ← ha]
  exact ⟨exec_block_completes (i := .twEncb) (.inl rfl) hwf hk hsrc hdst hplace,
    exec_block_completes (i := .twDecb) (.inr rfl) hwf hk hsrc hdst hplace⟩

/-- Settles O30: what the checks answer in each case, and a KEYSET's two ways to end. -/
theorem twKeysetLoadsOrFails : Obligations.TwKeysetLoadsOrFails := by
  intro s
  have hexec : exec .twKeyset s = .next (keyset .tw s (keysetChecks 12 12 s) loadTw) := exec_keyset rfl s
  refine ⟨fun hlen => ?_, fun hlen hr => ?_, fun hlen hr => ?_⟩
  · rw [hexec, keyset_raise (keysetChecks_keyLength (by omega))]
    rfl
  · rw [hexec, keyset_raise (keysetChecks_bus ⟨hlen.ge, hlen.le⟩ (by rwa [hlen]))]
    rfl
  · rw [hexec, keyset_effect (keysetChecks_none.2 ⟨⟨hlen.ge, hlen.le⟩, by rwa [hlen]⟩)]
    rfl

end Sys2Proof.Machine

/-! ## Proofs for the family 45_mode_ecb.md: the ECB mode, its limits and its round trip -/

namespace Sys2Proof.Machine

/-! ### The codes a mode command raises (R250, R255) -/

/-- A mode command's first two checks: on a VALID slot, no data is EMPTY whatever the other registers hold. -/
theorem dataChecks_empty {o : Op} {e : Engine} {s : State} (ho : o = .ecbe ∨ o = .ecbd ∨ o = .cbce ∨ o = .cbcd)
    (hk : s.ks e = .valid) (hd : s.src = 0#32 ∨ s.len.toNat = 0) : dataChecks o e s = some .empty := by
  have hvalid : ¬s.ks e ≠ .valid := not_not_intro hk
  obtain rfl | rfl | rfl | rfl := ho <;> exact (if_neg hvalid).trans (if_pos hd)

/-- Settles O22: all four modes check for data right after the key, and raising EMPTY is all that happens. -/
theorem nullOrEmptyDataEndsEmpty : Obligations.NullOrEmptyDataEndsEmpty := by
  intro i s ho hk hd
  have hdata : onData i.op := by
    obtain h | h | h | h := ho <;> rw [h] <;> exact ⟨by decide, by decide⟩
  have hempty := dataChecks_empty ho hk (hd.imp_right fun h => by rw [h]; rfl)
  rw [exec_data hdata, dataCommand_raise hempty]
  rfl

theorem rangeOk_eq_false_of_lt {s : State} {a n : Nat} (hn : n ≠ 0) (h : 2 ^ 32 < a + n) : rangeOk s a n = false := by
  rw [Bool.eq_false_iff]
  intro hr
  have := rangeOk_le hr
  omega

/-- An ECBE with a key and data whose source, destination or padded length is out of bounds is BUS. -/
theorem ecbeChecks_bus {e : Engine} {s : State} (hk : s.ks e = .valid) (hsrc : s.src ≠ 0#32) (hn : s.len.toNat ≠ 0)
    (hbad : rangeOk s s.src.toNat s.len.toNat = false ∨
      rangeOk s s.dst.toNat (paddedLen s.len.toNat (blockLen e)) = false ∨
      tooLong (paddedLen s.len.toNat (blockLen e)) = true) : ecbeChecks e s = some .bus := by
  have hdata : ¬(s.src = Config.nullAddr ∨ s.len.toNat = 0) := not_or.2 ⟨hsrc, hn⟩
  have hbus : (!rangeOk s s.src.toNat s.len.toNat || !rangeOk s s.dst.toNat (paddedLen s.len.toNat (blockLen e)) ||
      tooLong (paddedLen s.len.toNat (blockLen e))) = true := by
    simpa only [Bool.or_eq_true, Bool.not_eq_true', or_assoc] using hbad
  exact (if_neg (not_not_intro hk)).trans ((if_neg hdata).trans (if_pos hbus))

/-- Settles O56: a range past 2^32 is not RangeOK, and LEN = 0xFFFFFFFF pads to 2^32 bytes when bs = 8. -/
theorem ecbLengthLimitsGiveBus : Obligations.EcbLengthLimitsGiveBus := by
  intro e s hk hsrc hlen hbad
  have hn : s.len.toNat ≠ 0 := fun h => hlen (BitVec.eq_of_toNat_eq h)
  have hp : paddedLen s.len.toNat (blockLen e) ≠ 0 := by
    have := paddedLen_ge s.len.toNat (blockLen e)
    omega
  have hbus : ecbeChecks e s = some .bus := by
    refine ecbeChecks_bus hk hsrc hn ?_
    obtain h | h | ⟨hmax, h8⟩ := hbad
    · exact .inl (rangeOk_eq_false_of_lt hn h)
    · exact .inr (.inl (rangeOk_eq_false_of_lt hp h))
    · rw [hmax, h8]
      exact .inr (.inr (by decide))
  exact ⟨s.raise .bus, by rw [exec_ecbe (op_make e .ecbe), engine_make, modeEcbe_raise hbus], rfl, rfl, rfl⟩

/-! ### Blocks of a string (R251) -/

theorem toBlocks_getElem (bs : Nat) (w : List Byte) {j : Nat} (hj : j < (toBlocks bs w).length) :
    (toBlocks bs w)[j] = blockAt bs j w := blocksOf_getElem bs _ w hj

/-- The first block and the blocks of the rest. -/
theorem toBlocks_append {bs : Nat} (hbs : 0 < bs) {c : List Byte} (hc : c.length = bs) (r : List Byte) :
    toBlocks bs (c ++ r) = c :: toBlocks bs r := by
  have hcount : (c ++ r).length / bs = r.length / bs + 1 := by
    rw [List.length_append, hc, Nat.add_div_left _ hbs]
  rw [toBlocks, hcount, blocksOf, List.take_left' hc, List.drop_left' hc, toBlocks]

theorem toBlocks_flatMap {f : List Byte → List Byte} {bs : Nat} (hbs : 0 < bs) (hf : ∀ b, (f b).length = bs)
    (ws : List (List Byte)) : toBlocks bs (ws.flatMap f) = ws.map f := by
  induction ws with
  | nil => simp [toBlocks, blocksOf]
  | cons w ws ih => rw [List.flatMap_cons, toBlocks_append hbs (hf w), ih, List.map_cons]

theorem flatten_blocksOf (bs k : Nat) (w : List Byte) : (blocksOf bs k w).flatten = w.take (k * bs) := by
  induction k generalizing w with
  | zero => simp [blocksOf]
  | succ k ih => rw [blocksOf, List.flatten_cons, ih, Nat.succ_mul, Nat.add_comm, List.take_add]

/-- A string of whole blocks is its blocks in order. -/
theorem flatten_toBlocks {bs : Nat} {w : List Byte} (hw : w.length % bs = 0) : (toBlocks bs w).flatten = w := by
  rw [toBlocks, flatten_blocksOf, Nat.div_mul_cancel (Nat.dvd_of_mod_eq_zero hw), List.take_length]

theorem length_of_mem_toBlocks {bs : Nat} {w b : List Byte} (hb : b ∈ toBlocks bs w) : b.length = bs := by
  obtain ⟨j, hj, rfl⟩ := List.mem_iff_getElem.1 hb
  have hend : (j + 1) * bs ≤ w.length := by
    rw [toBlocks_length] at hj
    exact (Nat.mul_le_mul_right bs hj).trans (Nat.div_mul_le_self _ _)
  rw [Nat.succ_mul] at hend
  rw [toBlocks_getElem, blockAt, List.length_take, List.length_drop]
  omega

/-! ### The ECB transform of a string (R251, R253) -/

theorem toBlocks_ecbMap {f : List Byte → List Byte} {bs : Nat} (hbs : 0 < bs) (hf : ∀ b, (f b).length = bs)
    (w : List Byte) : toBlocks bs (ecbMap f bs w) = (toBlocks bs w).map f := toBlocks_flatMap hbs hf _

theorem ecbMap_length_of_whole {f : List Byte → List Byte} {bs : Nat} (hf : ∀ b, (f b).length = bs) {w : List Byte}
    (hw : w.length % bs = 0) : (ecbMap f bs w).length = w.length := by
  rw [ecbMap_length hf, Nat.mul_div_cancel' (Nat.dvd_of_mod_eq_zero hw)]

/-- Output block `j` is the transform of input block `j`. -/
theorem blockAt_ecbMap {f : List Byte → List Byte} {bs : Nat} (hbs : 0 < bs) (hf : ∀ b, (f b).length = bs)
    {w : List Byte} (hw : w.length % bs = 0) {j : Nat} (hj : j * bs < w.length) :
    blockAt bs j (ecbMap f bs w) = f (blockAt bs j w) := by
  have hlt : j < (toBlocks bs w).length := by
    rw [toBlocks_length]
    exact (Nat.lt_div_iff_mul_lt_of_dvd hbs.ne' (Nat.dvd_of_mod_eq_zero hw)).2 hj
  have hlt' : j < (toBlocks bs (ecbMap f bs w)).length := by rwa [toBlocks_ecbMap hbs hf, List.length_map]
  rw [← toBlocks_getElem bs _ hlt', ← toBlocks_getElem bs _ hlt]
  simp only [toBlocks_ecbMap hbs hf, List.getElem_map]

/-- A block function that inverts another on blocks inverts it on strings of whole blocks. -/
theorem ecbMap_ecbMap {f g : List Byte → List Byte} {bs : Nat} (hbs : 0 < bs) (hf : ∀ b, (f b).length = bs)
    (hgf : ∀ b, b.length = bs → g (f b) = b) {w : List Byte} (hw : w.length % bs = 0) :
    ecbMap g bs (ecbMap f bs w) = w :=
  calc ecbMap g bs (ecbMap f bs w)
      = (toBlocks bs w).flatMap fun b => g (f b) := by rw [ecbMap, toBlocks_ecbMap hbs hf, List.flatMap_map]
    _ = (toBlocks bs w).flatMap id := List.flatMap_congr fun b hb => hgf b (length_of_mem_toBlocks hb)
    _ = w := by rw [List.flatMap_id, flatten_toBlocks hw]

/-! ### ECBE and ECBD that end OK (R251, R252) -/

/-- The padded length of an ECBE that passes its checks fits OUTLEN. -/
theorem paddedLen_lt_of_ecbe {e : Engine} {s : State} (hc : ecbeChecks e s = none) :
    paddedLen s.len.toNat (blockLen e) < 2 ^ 32 := by
  obtain ⟨-, -, hn, hrs, hrd, hover⟩ := ecbeChecks_none.1 hc
  simpa [tooLong] using tooLong_eq_false hn hrs hrd hover

/-- Settles O48: the command passes its checks, and the string it stores is the ECB transform of the padded data. -/
theorem ecbEncryptTransformsEveryBlock : Obligations.EcbEncryptTransformsEveryBlock := by
  intro i s ho e bs n p w hwf hk hsrc hn hrs hrd hdisj
  have hpos : 0 < bs := blockLen_pos e
  have hc : ecbeChecks e s = none := ecbeChecks_none.2 ⟨hk, hsrc, hn, hrs, hrd, overlaps_eq_false_of_disjoint hdisj⟩
  have hrun := exec_data_completes (i := i) (s := s) (hwf := hwf)
  rw [ho] at hrun
  obtain ⟨t, ht, hend, hsame, hdrawn, hstored⟩ := hrun ⟨by decide, by decide⟩ hc (paddedLen_lt_of_ecbe hc)
  have hlen : w.length = p := by rw [pad_length, memRead_length]
  have hwhole : w.length % bs = 0 := by rw [hlen]; exact paddedLen_mod hpos
  refine ⟨t, _, ht, hend, hsame, hdrawn, hstored, ?_, fun j hj => ?_⟩
  · exact (ecbMap_length_of_whole (encBlock_length e s) hwhole).trans hlen
  · exact blockAt_ecbMap hpos (encBlock_length e s) hwhole (hj.trans_eq hlen.symm)

/-- A trimmed length is inside the string or the length given. -/
theorem trimLen_le {b : List Byte} {n : Nat} (h : b.length ≤ n) : trimLen b n ≤ n := by
  unfold trimLen
  cases hi : paddingIndex b with
  | none => exact le_rfl
  | some i =>
    obtain ⟨hlt, -⟩ := (paddingIndex_eq_some_iff b i).1 hi
    exact hlt.le.trans h

/-- Settles O49: the command passes its checks, and the string it stores is the ECB transform of the data. -/
theorem ecbDecryptTransformsEveryBlock : Obligations.EcbDecryptTransformsEveryBlock := by
  intro i s ho e bs n c hwf hk hsrc hn hmod hrs hrd hdisj
  have hlen : c.length = n := memRead_length s s.src n
  have hwhole : c.length % bs = 0 := by rw [hlen, hmod]
  have hout : (storedBytes .ecbd e s).length = n :=
    (ecbMap_length_of_whole (decBlock_length e s) hwhole).trans hlen
  have htrim : reportedLength .ecbd e s < 2 ^ 32 := (trimLen_le hout.le).trans_lt s.len.isLt
  have hrun := exec_data_completes (i := i) (s := s) (hwf := hwf)
  rw [ho] at hrun
  obtain ⟨t, ht, hend, hsame, hdrawn, hstored⟩ := hrun ⟨by decide, by decide⟩
    (ecbdChecks_none.2 ⟨hk, hsrc, hn, hmod, hrs, hrd, overlaps_eq_false_of_disjoint hdisj⟩) htrim
  exact ⟨t, storedBytes .ecbd e s, ht, hend, hsame, hdrawn, hstored, hout,
    fun j hj => blockAt_ecbMap (blockLen_pos e) (decBlock_length e s) hwhole (hj.trans_eq hlen.symm)⟩


/-! ### A block as words

A block is the little-endian bytes of its words (00_scope.md R10), so block decryption inverts block encryption because
the word transforms do (R114, R167, R213). -/

theorem le32_byteOf (w : Word) : le32 (byteOf 0 w) (byteOf 1 w) (byteOf 2 w) (byteOf 3 w) = w := by
  rw [le32_eq_append]
  ext i hi
  grind [byteOf]

theorem leBytes_le32 (b0 b1 b2 b3 : Byte) : leBytes (le32 b0 b1 b2 b3) = [b0, b1, b2, b3] := by
  simp only [leBytes, le32_eq_append, List.cons.injEq, and_true]
  refine ⟨?_, ?_, ?_, ?_⟩ <;> ext i hi <;> grind [byteOf]

@[simp] theorem wordLe_leBytes (w : Word) : wordLe (leBytes w) 0 = w := le32_byteOf w

@[simp] theorem wordLe_leBytes_append_zero (w : Word) (r : List Byte) : wordLe (leBytes w ++ r) 0 = w := le32_byteOf w

@[simp] theorem wordLe_leBytes_append_one (w : Word) (r : List Byte) : wordLe (leBytes w ++ r) 1 = wordLe r 0 := rfl

@[simp] theorem wordLe_leBytes_append_two (w : Word) (r : List Byte) : wordLe (leBytes w ++ r) 2 = wordLe r 1 := rfl

/-- The bytes of word `j` come before the bytes of the words after it. -/
theorem leBytes_wordLe_append {b : List Byte} {j : Nat} (h : 4 * j + 3 < b.length) :
    leBytes (wordLe b j) ++ b.drop (4 * (j + 1)) = b.drop (4 * j) := by
  have hbyte : ∀ i (hi : i < b.length), byteAt b i = b[i] := fun _ hi => List.getD_eq_getElem b _ hi
  rw [wordLe, leBytes_le32, hbyte, hbyte, hbyte, hbyte, List.drop_eq_getElem_cons (i := 4 * j) (by omega),
    List.drop_eq_getElem_cons (i := 4 * j + 1) (by omega), List.drop_eq_getElem_cons (i := 4 * j + 2) (by omega),
    List.drop_eq_getElem_cons h]
  rfl

theorem leBytes_words_of_length_8 {b : List Byte} (hb : b.length = 8) :
    leBytes (wordLe b 0) ++ leBytes (wordLe b 1) = b := by
  have h0 := leBytes_wordLe_append (b := b) (j := 0) (by omega)
  have h1 := leBytes_wordLe_append (b := b) (j := 1) (by omega)
  rw [List.drop_eq_nil_of_le (by omega), List.append_nil] at h1
  rwa [h1]

theorem twBytes_twTriple {b : List Byte} (hb : b.length = 12) : twBytes (twTriple b) = b := by
  have h0 := leBytes_wordLe_append (b := b) (j := 0) (by omega)
  have h1 := leBytes_wordLe_append (b := b) (j := 1) (by omega)
  have h2 := leBytes_wordLe_append (b := b) (j := 2) (by omega)
  rw [List.drop_eq_nil_of_le (by omega), List.append_nil] at h2
  simp only [twBytes, twTriple, List.append_assoc]
  rwa [h2, h1]

theorem twTriple_twBytes (a : Triple) : twTriple (twBytes a) = a := by
  simp [twTriple, twBytes]

theorem bfDecBlock_bfEncBlock (k : BfSchedule) {b : List Byte} (hb : b.length = 8) :
    bfDecBlock k (bfEncBlock k b) = b := by
  simp only [bfDecBlock, bfEncBlock, wordLe_leBytes_append_zero, wordLe_leBytes_append_one, wordLe_leBytes,
    blowfishDecryptInvertsEncrypt k _ _]
  exact leBytes_words_of_length_8 hb

theorem gostDecBlock_gostEncBlock (k : GostSchedule) {b : List Byte} (hb : b.length = 8) :
    gostDecBlock k (gostEncBlock k b) = b := by
  simp only [gostDecBlock, gostEncBlock, wordLe_leBytes_append_zero, wordLe_leBytes_append_one, wordLe_leBytes,
    gostDecryptInvertsEncrypt k _ _]
  exact leBytes_words_of_length_8 hb

/-- 3-Way decrypts with KI, which its key schedule makes from K (44_threeway.md R211). -/
theorem twDecBlock_twEncBlock (key : List Byte) {b : List Byte} (hb : b.length = 12) :
    twDecBlock (twKeySchedule key) (twEncBlock (twKeySchedule key) b) = b := by
  rw [twDecBlock, twEncBlock, twTriple_twBytes, twKeySchedule, threeWayDecryptInvertsEncrypt, twBytes_twTriple hb]

/-- On a VALID slot, DecBlock_E inverts EncBlock_E. -/
theorem decBlock_encBlock {e : Engine} {s : State} (hinv : s.Inv) (hk : s.ks e = .valid) {b : List Byte}
    (hb : b.length = blockLen e) : decBlock e s (encBlock e s b) = b := by
  cases e with
  | bf => exact bfDecBlock_bfEncBlock _ hb
  | gost => exact gostDecBlock_gostEncBlock _ hb
  | tw =>
    obtain ⟨key, -, hsched⟩ := hinv.tw_valid hk
    rw [decBlock, encBlock, hsched]
    exact twDecBlock_twEncBlock key hb

/-! ### The trimmed length of padded data (R93, R94) -/

/-- Off a block boundary the scan finds the marker that `Pad` wrote. -/
theorem paddingIndex_pad {d : List Byte} {bs : Nat} (hbs : 0 < bs) (h : d.length % bs ≠ 0) :
    paddingIndex (pad d bs) = some d.length := by
  have hlt := Nat.mod_lt d.length hbs
  refine (paddingIndex_eq_some_iff _ _).2 ⟨?_, byteAt_pad_marker hbs h, fun j hj _ => byteAt_pad_zero hbs h hj⟩
  rw [pad_length, paddedLen_of_partial hbs h]
  omega

theorem trimLen_of_some {b : List Byte} {i : Nat} (h : paddingIndex b = some i) (n : Nat) : trimLen b n = i := by
  rw [trimLen, h, Option.getD_some]

theorem trimLen_of_none {b : List Byte} (h : paddingIndex b = none) (n : Nat) : trimLen b n = n := by
  rw [trimLen, h, Option.getD_none]

/-- What decryption of padded data reports: its length off a block boundary, and on it the length up to a marker in the
data itself. -/
theorem trimLen_pad {d : List Byte} {bs : Nat} (hbs : 0 < bs) :
    trimLen (pad d bs) (paddedLen d.length bs) = if d.length % bs = 0 then trimLen d d.length else d.length := by
  split_ifs with h
  · rw [pad_of_whole h, paddedLen_of_whole h]
  · exact trimLen_of_some (paddingIndex_pad hbs h) _

/-! ### The ECB round trip (R254) -/

/-- A command on data that ended OK passed its checks and had its effect. -/
theorem dataEffect_of_ok {o : Op} {e : Engine} {s t : State} (ho : onData o) (ht : exec (.make e o) s = .next t)
    (hok : t.code = .ok) : dataChecks o e s = none ∧ t = dataEffect o e s := by
  rw [exec_data (by rwa [op_make]), op_make, engine_make] at ht
  cases ht
  cases hc : dataChecks o e s with
  | some c =>
    rw [dataCommand_raise hc] at hok
    exact absurd hok (dataChecks_ne_ok hc)
  | none => exact ⟨rfl, dataCommand_effect hc⟩

/-- What an operation on data stored reads back from its destination. -/
theorem memRead_dataEffect {s : State} (hwf : s.mem.wf = true) (o : Op) (e : Engine) :
    memRead (dataEffect o e s) s.dst (storedBytes o e s).length = storedBytes o e s :=
  Memory.readBytes_writeBytes hwf _ _

theorem dataEffect_storedAt {s : State} (hwf : s.mem.wf = true) (o : Op) (e : Engine) :
    storedAt s (dataEffect o e s) s.dst.toNat (storedBytes o e s) := memWrite_storedAt hwf s.dst _

/-- The state of an ECBE that ended OK, with ECBD's operands set to its output and to the destination `d` (R254). -/
def onOutput (t : State) (d : Word) : State := { t with src := t.dst, len := t.outlen, dst := d }

theorem dataEffect_outlen {o : Op} {e : Engine} {s : State} (h : reportedLength o e s < 2 ^ 32) :
    (dataEffect o e s).outlen.toNat = reportedLength o e s := Nat.mod_eq_of_lt h

theorem onOutput_len_of_ecbe {e : Engine} {s : State} (hc : dataChecks .ecbe e s = none) (d : Word) :
    (onOutput (dataEffect .ecbe e s) d).len.toNat = paddedLen s.len.toNat (blockLen e) :=
  dataEffect_outlen (o := .ecbe) (paddedLen_lt_of_ecbe hc)

/-- ECBD of what ECBE stored gives the padded data back. -/
theorem storedBytes_ecbd_of_ecbe {e : Engine} {s : State} (hinv : s.Inv) (hc : dataChecks .ecbe e s = none) (d : Word) :
    storedBytes .ecbd e (onOutput (dataEffect .ecbe e s) d) = pad (memRead s s.src s.len.toNat) (blockLen e) := by
  have hk : s.ks e = .valid := (ecbeChecks_none.1 hc).1
  have hw : (pad (memRead s s.src s.len.toNat) (blockLen e)).length % blockLen e = 0 := by
    rw [pad_length]
    exact paddedLen_mod (blockLen_pos e)
  have hlen : (storedBytes .ecbe e s).length = paddedLen s.len.toNat (blockLen e) := by
    rw [storedBytes, ecbMap_length_of_whole (encBlock_length e s) hw, pad_length, memRead_length]
  have hread : memRead (onOutput (dataEffect .ecbe e s) d) s.dst (onOutput (dataEffect .ecbe e s) d).len.toNat =
      storedBytes .ecbe e s := by
    rw [onOutput_len_of_ecbe hc, ← hlen]
    exact memRead_dataEffect hinv.mem_wf .ecbe e
  calc storedBytes .ecbd e (onOutput (dataEffect .ecbe e s) d)
      = ecbMap (decBlock e s) (blockLen e) (storedBytes .ecbe e s) := congrArg (ecbMap (decBlock e s) (blockLen e)) hread
    _ = pad (memRead s s.src s.len.toNat) (blockLen e) :=
      ecbMap_ecbMap (blockLen_pos e) (encBlock_length e s) (fun _ => decBlock_encBlock hinv hk) hw

/-- ECBD of what ECBE stored reports the trimmed length of the padded data. -/
theorem reportedLength_ecbd_of_ecbe {e : Engine} {s : State} (hinv : s.Inv) (hc : dataChecks .ecbe e s = none)
    (d : Word) {data : List Byte} (hdata : memRead s s.src s.len.toNat = data) :
    reportedLength .ecbd e (onOutput (dataEffect .ecbe e s) d) =
      if data.length % blockLen e = 0 then trimLen data data.length else data.length := by
  have hlen : s.len.toNat = data.length := by rw [← hdata, memRead_length]
  rw [reportedLength, storedBytes_ecbd_of_ecbe hinv hc, onOutput_len_of_ecbe hc, hdata, hlen,
    trimLen_pad (blockLen_pos e)]

/-- Settles O53: ECBD reads what ECBE stored and decrypts it block by block to the padded data, whose trimmed length it
reports. -/
theorem ecbRoundTripRecoversThePlaintext : Obligations.EcbRoundTripRecoversThePlaintext := by
  intro e s t v d hinv ht hok hv hvok bs data
  obtain ⟨hc, rfl⟩ := dataEffect_of_ok ⟨by decide, by decide⟩ ht hok
  obtain ⟨-, rfl⟩ := dataEffect_of_ok (s := onOutput (dataEffect .ecbe e s) d) ⟨by decide, by decide⟩ hv hvok
  have hwf : (dataEffect .ecbe e s).mem.wf = true := Memory.writeBytes_wf hinv.mem_wf _ _
  have hplain := storedBytes_ecbd_of_ecbe hinv hc d
  have hout : (dataEffect .ecbd e (onOutput (dataEffect .ecbe e s) d)).outlen.toNat =
      if data.length % bs = 0 then trimLen data data.length else data.length := by
    have hreport := reportedLength_ecbd_of_ecbe hinv hc d rfl
    rw [dataEffect_outlen (hreport.trans_lt ?_), hreport]
    have hlt : data.length < 2 ^ 32 := (memRead_length s s.src _).trans_lt s.len.isLt
    split_ifs
    · exact (trimLen_le le_rfl).trans_lt hlt
    · exact hlt
  refine ⟨?_, fun h => ?_, fun h hnone => ?_, fun i h hsome => ?_⟩
  · rw [← hplain]
    exact dataEffect_storedAt (s := onOutput (dataEffect .ecbe e s) d) hwf .ecbd e
  · rw [hout, if_neg h]
  · rw [hout, if_pos h, trimLen_of_none hnone]
  · rw [hout, if_pos h, trimLen_of_some hsome]

end Sys2Proof.Machine

/-! ## Proofs for the family 46_mode_cbc.md: the CBC mode, its corner cases and its round trip -/

namespace Sys2Proof.Machine

/-! ### Byte-wise XOR (R274) -/

theorem xorBytes_length {x y : List Byte} {n : Nat} (hx : x.length = n) (hy : y.length = n) :
    (xorBytes x y).length = n := by
  rw [xorBytes, List.length_zipWith, hx, hy, Nat.min_self]

/-- A second XOR with the same string undoes the first. -/
theorem xorBytes_xorBytes {x y : List Byte} (h : x.length = y.length) : xorBytes (xorBytes x y) y = x := by
  refine List.ext_getElem (by rw [xorBytes_length (xorBytes_length h rfl) rfl, h]) fun i _ _ => ?_
  simp only [xorBytes, List.getElem_zipWith, BitVec.xor_assoc, BitVec.xor_self, BitVec.xor_zero]

/-- XOR with zeros changes nothing. -/
theorem xorBytes_eq_left {x y : List Byte} (h : x.length = y.length) (hy : ∀ i, i < y.length → byteAt y i = 0#8) :
    xorBytes x y = x := by
  refine List.ext_getElem (by rw [xorBytes_length h rfl, h]) fun i _ hi => ?_
  have hzero : y[i]'(h ▸ hi) = 0#8 := by
    rw [← hy i (h ▸ hi), byteAt, List.getD_eq_getElem _ _ (h ▸ hi)]
  simp only [xorBytes, List.getElem_zipWith, hzero, BitVec.xor_zero]

/-! ### Blocks of a string whose first block is given -/

theorem blockAt_zero_append {bs : Nat} {c : List Byte} (hc : c.length = bs) (r : List Byte) :
    blockAt bs 0 (c ++ r) = c := by
  rw [blockAt, Nat.zero_mul, List.drop_zero, List.take_left' hc]

theorem blockAt_succ_append {bs : Nat} {c : List Byte} (hc : c.length = bs) (r : List Byte) (j : Nat) :
    blockAt bs (j + 1) (c ++ r) = blockAt bs j r := by
  rw [blockAt, Nat.succ_mul, Nat.add_comm, ← List.drop_drop, List.drop_left' hc, blockAt]

/-- Byte `x` of block `j`. -/
theorem byteAt_blockAt {bs x : Nat} (hx : x < bs) (j : Nat) (b : List Byte) :
    byteAt (blockAt bs j b) x = byteAt b (j * bs + x) := by
  simp [byteAt, blockAt, List.getD_eq_getElem?_getD, hx]

/-- A string of whole blocks has block `j` as soon as it has its first byte. -/
theorem lt_toBlocks_length {bs : Nat} (hbs : 0 < bs) {w : List Byte} (hw : w.length % bs = 0) {j : Nat}
    (hj : j * bs < w.length) : j < (toBlocks bs w).length := by
  rw [toBlocks_length]
  exact (Nat.lt_div_iff_mul_lt_of_dvd hbs.ne' (Nat.dvd_of_mod_eq_zero hw)).2 hj

theorem blockAt_length {bs : Nat} (hbs : 0 < bs) {w : List Byte} (hw : w.length % bs = 0) {j : Nat}
    (hj : j * bs < w.length) : (blockAt bs j w).length = bs := by
  rw [← toBlocks_getElem bs w (lt_toBlocks_length hbs hw hj)]
  exact length_of_mem_toBlocks (List.getElem_mem _)

/-- Padded data holds a block at least. -/
theorem block_le_paddedLen {n bs : Nat} (hbs : 0 < bs) (hn : n ≠ 0) : bs ≤ paddedLen n bs :=
  Nat.le_of_dvd ((Nat.pos_of_ne_zero hn).trans_le (paddedLen_ge n bs)) (Nat.dvd_of_mod_eq_zero (paddedLen_mod hbs))

/-! ### The CBC loops (R272, R273) -/

/-- Block `j` of the ciphertext, which follows the IV: the transform of plaintext block `j` XOR the block before it. -/
theorem blockAt_cbcEncrypt {f : List Byte → List Byte} {bs : Nat} (hf : ∀ b, (f b).length = bs)
    {iv : List Byte} (hiv : iv.length = bs) (ws : List (List Byte)) {j : Nat} (hj : j < ws.length) :
    blockAt bs (j + 1) (iv ++ cbcEncrypt f iv ws) =
      f (xorBytes ws[j] (blockAt bs j (iv ++ cbcEncrypt f iv ws))) := by
  induction ws generalizing iv j with
  | nil => exact absurd hj (Nat.not_lt_zero j)
  | cons w ws ih =>
    rw [cbcEncrypt, blockAt_succ_append hiv]
    cases j with
    | zero => rw [blockAt_zero_append (hf _), blockAt_zero_append hiv, List.getElem_cons_zero]
    | succ j => rw [blockAt_succ_append hiv, ih (hf _) (Nat.lt_of_succ_lt_succ hj), List.getElem_cons_succ]

/-- Block `j` of the plaintext: the transform of ciphertext block `j`, XOR the block before it or the IV. -/
theorem blockAt_cbcDecrypt {g : List Byte → List Byte} {bs : Nat} (hg : ∀ b, (g b).length = bs)
    {iv : List Byte} (hiv : iv.length = bs) {cs : List (List Byte)} (hcs : ∀ c ∈ cs, c.length = bs) {j : Nat}
    (hj : j < cs.length) :
    blockAt bs j (cbcDecrypt g iv cs) = xorBytes (g cs[j]) ((iv :: cs)[j]'(Nat.lt_succ_of_lt hj)) := by
  induction cs generalizing iv j with
  | nil => exact absurd hj (Nat.not_lt_zero j)
  | cons c cs ih =>
    have hx : (xorBytes (g c) iv).length = bs := xorBytes_length (hg c) hiv
    obtain ⟨hc, hcs⟩ := List.forall_mem_cons.1 hcs
    cases j with
    | zero => exact blockAt_zero_append hx _
    | succ j => exact (blockAt_succ_append hx _ j).trans (ih hc hcs (Nat.lt_of_succ_lt_succ hj))

/-- Block `j` of the plaintext, by the blocks of the whole input: the IV, then the ciphertext. -/
theorem blockAt_cbcDecrypt_toBlocks {g : List Byte → List Byte} {bs : Nat} (hbs : 0 < bs)
    (hg : ∀ b, (g b).length = bs) {iv c : List Byte} (hiv : iv.length = bs) (hc : c.length % bs = 0)
    {j : Nat} (hj : j * bs < c.length) :
    blockAt bs j (cbcDecrypt g iv (toBlocks bs c)) =
      xorBytes (g (blockAt bs (j + 1) (iv ++ c))) (blockAt bs j (iv ++ c)) := by
  rw [blockAt_cbcDecrypt hg hiv (fun _ => length_of_mem_toBlocks) (lt_toBlocks_length hbs hc hj),
    blockAt_succ_append hiv, toBlocks_getElem]
  simp only [← toBlocks_append hbs hiv, toBlocks_getElem]

/-- CBC plaintext of whole blocks is as long as they are. -/
theorem cbcDecrypt_length {g : List Byte → List Byte} {bs : Nat} (hg : ∀ b, (g b).length = bs)
    {iv : List Byte} (hiv : iv.length = bs) {cs : List (List Byte)} (hcs : ∀ c ∈ cs, c.length = bs) :
    (cbcDecrypt g iv cs).length = bs * cs.length := by
  induction cs generalizing iv with
  | nil => rfl
  | cons c cs ih =>
    have hx : (xorBytes (g c) iv).length = bs := xorBytes_length (hg c) hiv
    obtain ⟨hc, hcs⟩ := List.forall_mem_cons.1 hcs
    rw [cbcDecrypt, List.length_append, hx, ih hc hcs, List.length_cons, Nat.mul_succ, Nat.add_comm]

/-- A block function that inverts another on blocks decrypts what the other encrypted under the same IV. -/
theorem cbcDecrypt_cbcEncrypt {f g : List Byte → List Byte} {bs : Nat} (hbs : 0 < bs) (hf : ∀ b, (f b).length = bs)
    (hgf : ∀ b, b.length = bs → g (f b) = b) {iv : List Byte} (hiv : iv.length = bs) {ws : List (List Byte)}
    (hws : ∀ w ∈ ws, w.length = bs) : cbcDecrypt g iv (toBlocks bs (cbcEncrypt f iv ws)) = ws.flatten := by
  induction ws generalizing iv with
  | nil => simp [cbcEncrypt, toBlocks, blocksOf, cbcDecrypt]
  | cons w ws ih =>
    obtain ⟨hw, hws⟩ := List.forall_mem_cons.1 hws
    rw [cbcEncrypt, toBlocks_append hbs (hf _), cbcDecrypt, hgf _ (xorBytes_length hw hiv),
      xorBytes_xorBytes (hw.trans hiv.symm), ih (hf _) hws, List.flatten_cons]

/-! ### What CBCE and CBCD store (R271 to R273) -/

theorem pad_memRead_length (e : Engine) (s : State) :
    (pad (memRead s s.src s.len.toNat) (blockLen e)).length = paddedLen s.len.toNat (blockLen e) := by
  rw [pad_length, memRead_length]

theorem pad_memRead_whole (e : Engine) (s : State) :
    (pad (memRead s s.src s.len.toNat) (blockLen e)).length % blockLen e = 0 := by
  rw [pad_memRead_length]
  exact paddedLen_mod (blockLen_pos e)

theorem storedBytes_ecbe_length (e : Engine) (s : State) :
    (storedBytes .ecbe e s).length = paddedLen s.len.toNat (blockLen e) := by
  rw [storedBytes, ecbMap_length_of_whole (encBlock_length e s) (pad_memRead_whole e s), pad_memRead_length]

theorem storedBytes_cbce_length (e : Engine) (s : State) :
    (storedBytes .cbce e s).length = paddedLen s.len.toNat (blockLen e) + blockLen e := by
  rw [storedBytes, List.length_append, cbcIv_length, cbcEncrypt_length (encBlock_length e s), toBlocks_length,
    Nat.mul_div_cancel' (Nat.dvd_of_mod_eq_zero (pad_memRead_whole e s)), pad_memRead_length, Nat.add_comm]

/-- The first block CBCE stores is the IV. -/
theorem blockAt_zero_storedBytes_cbce (e : Engine) (s : State) :
    blockAt (blockLen e) 0 (storedBytes .cbce e s) = cbcIv e s := blockAt_zero_append (cbcIv_length e s) _

/-- Each later block CBCE stores is chained to the one before it. -/
theorem blockAt_succ_storedBytes_cbce {e : Engine} {s : State}
    {j : Nat} (hj : j * blockLen e < paddedLen s.len.toNat (blockLen e)) :
    blockAt (blockLen e) (j + 1) (storedBytes .cbce e s) =
      encBlock e s (xorBytes (blockAt (blockLen e) j (pad (memRead s s.src s.len.toNat) (blockLen e)))
        (blockAt (blockLen e) j (storedBytes .cbce e s))) := by
  have hlt := lt_toBlocks_length (blockLen_pos e) (pad_memRead_whole e s) (hj.trans_eq (pad_memRead_length e s).symm)
  rw [← toBlocks_getElem _ _ hlt]
  exact blockAt_cbcEncrypt (encBlock_length e s) (cbcIv_length e s) _ hlt

theorem cbcIv_supplied {e : Engine} {s : State} (h : s.iva ≠ 0#32) : cbcIv e s = memRead s s.iva (blockLen e) := by
  simp [cbcIv, ivGenerated, Config.nullAddr, h]

theorem byteAt_cbcIv_generated {e : Engine} {s : State} (h : s.iva = 0#32) {x : Nat} (hx : x < blockLen e) :
    byteAt (cbcIv e s) x = Config.entropy (s.drawn + x) := by
  simp [cbcIv, ivGenerated, Config.nullAddr, h, drawnBytes, byteAt, hx]

/-- The length a CBCE that passes its checks reports fits OUTLEN. -/
theorem reportedLength_cbce_lt {e : Engine} {s : State} (hc : cbceChecks e s = none) :
    reportedLength .cbce e s < 2 ^ 32 := by
  obtain ⟨-, -, hn, hrs, hrd, -, hover, -⟩ := cbceChecks_none.1 hc
  simpa [tooLong, reportedLength] using tooLong_eq_false hn hrs hrd hover

/-- CBCD's data is the IV and the ciphertext after it. -/
theorem cbcdIv_length {e : Engine} {s : State} (hle : blockLen e ≤ s.len.toNat) :
    ((memRead s s.src s.len.toNat).take (blockLen e)).length = blockLen e := by
  rw [List.length_take, memRead_length, Nat.min_eq_left hle]

theorem cbcdText_length (e : Engine) (s : State) :
    ((memRead s s.src s.len.toNat).drop (blockLen e)).length = s.len.toNat - blockLen e := by
  rw [List.length_drop, memRead_length]

theorem cbcdText_whole {e : Engine} {s : State} (hmod : s.len.toNat % blockLen e = 0) :
    ((memRead s s.src s.len.toNat).drop (blockLen e)).length % blockLen e = 0 := by
  rw [cbcdText_length]
  exact Nat.mod_eq_zero_of_dvd (Nat.dvd_sub (Nat.dvd_of_mod_eq_zero hmod) dvd_rfl)

theorem storedBytes_cbcd_length {e : Engine} {s : State} (hle : blockLen e ≤ s.len.toNat)
    (hmod : s.len.toNat % blockLen e = 0) :
    (storedBytes .cbcd e s).length = s.len.toNat - blockLen e := by
  rw [storedBytes, cbcDecrypt_length (decBlock_length e s) (cbcdIv_length hle) fun _ => length_of_mem_toBlocks,
    toBlocks_length, Nat.mul_div_cancel' (Nat.dvd_of_mod_eq_zero (cbcdText_whole hmod)), cbcdText_length]

/-- Each block CBCD stores undoes the chaining of two blocks of its data. -/
theorem blockAt_storedBytes_cbcd {e : Engine} {s : State} (hle : blockLen e ≤ s.len.toNat)
    (hmod : s.len.toNat % blockLen e = 0) {j : Nat} (hj : j * blockLen e < s.len.toNat - blockLen e) :
    blockAt (blockLen e) j (storedBytes .cbcd e s) =
      xorBytes (decBlock e s (blockAt (blockLen e) (j + 1) (memRead s s.src s.len.toNat)))
        (blockAt (blockLen e) j (memRead s s.src s.len.toNat)) := by
  have h := blockAt_cbcDecrypt_toBlocks (blockLen_pos e) (decBlock_length e s) (cbcdIv_length hle)
    (cbcdText_whole hmod) (hj.trans_eq (cbcdText_length e s).symm)
  rwa [List.take_append_drop] at h

/-! ### CBCE and CBCD that end OK (R271 to R275) -/

/-- Settles O50: the command passes its checks, and the string it stores is the IV and the chained blocks. -/
theorem cbcEncryptChainsEveryBlock : Obligations.CbcEncryptChainsEveryBlock := by
  intro i s ho e bs n p w hwf hk hsrc hn hrs hrd hdisj hiva
  have hc : cbceChecks e s = none := cbceChecks_none.2 ⟨hk, hsrc, hn, hrs, hrd, fun h => (hiva h).1,
    overlaps_eq_false_of_disjoint hdisj, fun h => overlaps_eq_false_of_disjoint (hiva h).2⟩
  have hrun := exec_data_completes (i := i) (s := s) (hwf := hwf)
  rw [ho] at hrun
  obtain ⟨t, ht, hend, hsame, hdrawn, hstored⟩ := hrun ⟨by decide, by decide⟩ hc (reportedLength_cbce_lt hc)
  rw [drawCount_eq] at hdrawn
  have hfirst : blockAt bs 0 (storedBytes .cbce e s) = cbcIv e s := blockAt_zero_storedBytes_cbce e s
  refine ⟨t, storedBytes .cbce e s, ht, hend, hsame, hstored, storedBytes_cbce_length e s, fun h => ?_, fun h => ?_,
    fun j hj => blockAt_succ_storedBytes_cbce hj⟩
  · exact ⟨hfirst.trans (cbcIv_supplied h), by simpa [h] using hdrawn⟩
  · refine ⟨fun x hx => ?_, by simpa [h] using hdrawn⟩
    rw [← byteAt_cbcIv_generated h hx]
    exact byteAt_append_left _ (hx.trans_eq (cbcIv_length e s).symm)

/-- Settles O51: the command passes its checks, and the string it stores is its data unchained. -/
theorem cbcDecryptUnchainsEveryBlock : Obligations.CbcDecryptUnchainsEveryBlock := by
  intro i s ho e bs n m c hwf hk hsrc hle hmod hrs hrd hdisj
  have hn : n ≠ 0 := ((blockLen_pos e).trans_le hle).ne'
  have hout : (storedBytes .cbcd e s).length = m := storedBytes_cbcd_length hle hmod
  have htrim : reportedLength .cbcd e s < 2 ^ 32 :=
    ((trimLen_le hout.le).trans (Nat.sub_le _ _)).trans_lt s.len.isLt
  have hrun := exec_data_completes (i := i) (s := s) (hwf := hwf)
  rw [ho] at hrun
  obtain ⟨t, ht, hend, hsame, hdrawn, hstored⟩ := hrun ⟨by decide, by decide⟩
    (cbcdChecks_none.2 ⟨hk, hsrc, hn, hle, hmod, hrs, hrd, overlaps_eq_false_of_disjoint hdisj⟩) htrim
  exact ⟨t, storedBytes .cbcd e s, ht, hend, hsame, hdrawn, hstored, hout,
    fun j hj => blockAt_storedBytes_cbcd hle hmod hj⟩

/-! ### The corner cases (R277) -/

/-- A command on data that passes its checks has its effect. -/
theorem exec_make_effect {o : Op} {e : Engine} {s : State} (ho : onData o) (hc : dataChecks o e s = none) :
    exec (.make e o) s = .next (dataEffect o e s) := by
  rw [exec_data (by rwa [op_make]), op_make, engine_make, dataCommand_effect hc]

/-- CBCD of the IV alone passes its checks whatever DST holds, since an empty range always does. -/
theorem cbcdChecks_ivAlone {e : Engine} {s : State} (hk : s.ks e = .valid) (hsrc : s.src ≠ 0#32)
    (hlen : s.len.toNat = blockLen e) (hrs : rangeOk s s.src.toNat (blockLen e) = true) : cbcdChecks e s = none := by
  refine cbcdChecks_none.2 ⟨hk, hsrc, ?_, hlen.ge, ?_, ?_, ?_, ?_⟩
  · rw [hlen]
    exact (blockLen_pos e).ne'
  · rw [hlen, Nat.mod_self]
  · rwa [hlen]
  · rw [hlen, Nat.sub_self]
    rfl
  · simp [hlen, overlaps]

theorem storedBytes_cbcd_ivAlone {e : Engine} {s : State} (hlen : s.len.toNat = blockLen e) :
    storedBytes .cbcd e s = [] := by
  refine List.eq_nil_of_length_eq_zero ?_
  rw [storedBytes_cbcd_length hlen.ge (by rw [hlen, Nat.mod_self]), hlen, Nat.sub_self]

theorem reportedLength_cbcd_ivAlone {e : Engine} {s : State} (hlen : s.len.toNat = blockLen e) :
    reportedLength .cbcd e s = 0 := by
  rw [reportedLength, storedBytes_cbcd_ivAlone hlen, hlen, Nat.sub_self]
  rfl

/-- The first block after an all-zero supplied IV is the first block ECBE stores. -/
theorem blockAt_one_storedBytes_zeroIv {e : Engine} {s : State} (hn : s.len.toNat ≠ 0) (hiva : s.iva ≠ 0#32)
    (hzero : ∀ x, x < blockLen e → s.mem.read (s.iva.toNat + x) = 0#8) :
    blockAt (blockLen e) 1 (storedBytes .cbce e s) = blockAt (blockLen e) 0 (storedBytes .ecbe e s) := by
  have hpos : 0 * blockLen e < paddedLen s.len.toNat (blockLen e) := by
    rw [Nat.zero_mul]
    exact (blockLen_pos e).trans_le (block_le_paddedLen (blockLen_pos e) hn)
  have hw := pad_memRead_whole e s
  have hlt := hpos.trans_eq (pad_memRead_length e s).symm
  have hiv : (memRead s s.iva (blockLen e)).length = blockLen e := memRead_length _ _ _
  rw [blockAt_succ_storedBytes_cbce hpos, blockAt_zero_storedBytes_cbce, cbcIv_supplied hiva, xorBytes_eq_left,
    storedBytes, blockAt_ecbMap (blockLen_pos e) (encBlock_length e s) hw hlt]
  · rw [blockAt_length (blockLen_pos e) hw hlt, hiv]
  · intro x hx
    rw [memRead, Memory.byteAt_readBytes _ _ (hx.trans_eq hiv)]
    exact hzero x (hx.trans_eq hiv)

/-- Byte `x` of stored block `j`, read back from memory. -/
theorem read_dataEffect_blockAt {o : Op} {e : Engine} {s : State} (hwf : s.mem.wf = true) {j x bs : Nat} (hx : x < bs)
    (hlen : (j + 1) * bs ≤ (storedBytes o e s).length) :
    (dataEffect o e s).mem.read (s.dst.toNat + (j * bs + x)) = byteAt (blockAt bs j (storedBytes o e s)) x := by
  rw [Nat.succ_mul] at hlen
  rw [byteAt_blockAt hx]
  exact (dataEffect_storedAt hwf o e).1 _ (by omega)

/-- Settles O52: CBCD of the IV alone stores no block, CBCE reports its checked length, and XOR with zeros leaves ECBE's
first block. -/
theorem cbcCornerCases : Obligations.CbcCornerCases := by
  intro e s t hwf
  refine ⟨fun hk hsrc hlen hrs => ?_, fun ht hok => ?_, fun u ht hok hu huok hiva hzero x hx => ?_⟩
  · have hc : dataChecks .cbcd e s = none := cbcdChecks_ivAlone hk hsrc hlen hrs
    rw [exec_make_effect ⟨by decide, by decide⟩ hc, dataEffect, storedBytes_cbcd_ivAlone hlen,
      reportedLength_cbcd_ivAlone hlen]
    rfl
  · obtain ⟨hc, rfl⟩ := dataEffect_of_ok ⟨by decide, by decide⟩ ht hok
    exact dataEffect_outlen (reportedLength_cbce_lt hc)
  · obtain ⟨hc, rfl⟩ := dataEffect_of_ok ⟨by decide, by decide⟩ ht hok
    obtain ⟨-, rfl⟩ := dataEffect_of_ok ⟨by decide, by decide⟩ hu huok
    obtain ⟨-, -, hn, -⟩ := cbceChecks_none.1 hc
    have hblock := block_le_paddedLen (blockLen_pos e) hn
    have hcbc := read_dataEffect_blockAt (o := .cbce) (e := e) hwf (j := 1) hx
      (by rw [storedBytes_cbce_length]; omega)
    have hecb := read_dataEffect_blockAt (o := .ecbe) (e := e) hwf (j := 0) hx
      (by rw [storedBytes_ecbe_length]; omega)
    rw [blockAt_one_storedBytes_zeroIv hn hiva hzero, ← hecb, Nat.one_mul, Nat.zero_mul, Nat.zero_add,
      ← Nat.add_assoc] at hcbc
    exact hcbc

/-! ### The CBC round trip (R276) -/

/-- The beginning of a string read from memory. -/
theorem Memory.take_readBytes (m : Memory) (a : Nat) {k n : Nat} (h : k ≤ n) :
    (m.readBytes a n).take k = m.readBytes a k := by
  induction k generalizing a n with
  | zero => rfl
  | succ k ih =>
    obtain ⟨n, rfl⟩ := Nat.exists_eq_add_of_lt h
    rw [Memory.readBytes, List.take_succ_cons, ih _ (Nat.le_add_right k n), Memory.readBytes]

/-- The IV reads back from the first block of CBCE's output. -/
theorem memRead_dataEffect_iv {s : State} (hwf : s.mem.wf = true) (e : Engine) :
    memRead (dataEffect .cbce e s) s.dst (blockLen e) = cbcIv e s :=
  calc memRead (dataEffect .cbce e s) s.dst (blockLen e)
      = (memRead (dataEffect .cbce e s) s.dst (storedBytes .cbce e s).length).take (blockLen e) :=
        (Memory.take_readBytes _ _ (by rw [storedBytes_cbce_length]; exact Nat.le_add_left _ _)).symm
    _ = (storedBytes .cbce e s).take (blockLen e) := by rw [memRead_dataEffect hwf]
    _ = cbcIv e s := List.take_left' (cbcIv_length e s)

/-- What CBCD of CBCE's output reads is what CBCE stored. -/
theorem memRead_onOutput_cbce {e : Engine} {s : State} (hinv : s.Inv) (hc : dataChecks .cbce e s = none) (d : Word) :
    memRead (onOutput (dataEffect .cbce e s) d) s.dst (onOutput (dataEffect .cbce e s) d).len.toNat =
      storedBytes .cbce e s := by
  have hlen : (onOutput (dataEffect .cbce e s) d).len.toNat = (storedBytes .cbce e s).length :=
    (dataEffect_outlen (reportedLength_cbce_lt hc)).trans (storedBytes_cbce_length e s).symm
  rw [hlen]
  exact memRead_dataEffect hinv.mem_wf .cbce e

/-- CBCD of what CBCE stored gives the padded data back, whatever the IV. -/
theorem storedBytes_cbcd_of_cbce {e : Engine} {s : State} (hinv : s.Inv) (hc : dataChecks .cbce e s = none) (d : Word) :
    storedBytes .cbcd e (onOutput (dataEffect .cbce e s) d) = pad (memRead s s.src s.len.toNat) (blockLen e) := by
  have hk : s.ks e = .valid := (cbceChecks_none.1 hc).1
  calc storedBytes .cbcd e (onOutput (dataEffect .cbce e s) d)
      = cbcDecrypt (decBlock e s) ((storedBytes .cbce e s).take (blockLen e))
          (toBlocks (blockLen e) ((storedBytes .cbce e s).drop (blockLen e))) := by
        rw [← memRead_onOutput_cbce hinv hc d]
        rfl
    _ = (toBlocks (blockLen e) (pad (memRead s s.src s.len.toNat) (blockLen e))).flatten := by
        rw [storedBytes, List.take_left' (cbcIv_length e s), List.drop_left' (cbcIv_length e s)]
        exact cbcDecrypt_cbcEncrypt (blockLen_pos e) (encBlock_length e s) (fun _ => decBlock_encBlock hinv hk)
          (cbcIv_length e s) fun _ => length_of_mem_toBlocks
    _ = pad (memRead s s.src s.len.toNat) (blockLen e) := flatten_toBlocks (pad_memRead_whole e s)

/-- CBCD of what CBCE stored reports the trimmed length of the padded data. -/
theorem reportedLength_cbcd_of_cbce {e : Engine} {s : State} (hinv : s.Inv) (hc : dataChecks .cbce e s = none)
    (d : Word) {data : List Byte} (hdata : memRead s s.src s.len.toNat = data) :
    reportedLength .cbcd e (onOutput (dataEffect .cbce e s) d) =
      trimLen (pad data (blockLen e)) (paddedLen data.length (blockLen e)) := by
  have hlen : (onOutput (dataEffect .cbce e s) d).len.toNat = paddedLen s.len.toNat (blockLen e) + blockLen e :=
    dataEffect_outlen (reportedLength_cbce_lt hc)
  rw [reportedLength, storedBytes_cbcd_of_cbce hinv hc, hlen, Nat.add_sub_cancel, ← hdata, memRead_length]

/-- The length a round trip reports: that of the data off a block boundary, and on it the length up to a marker in the
data itself (45_mode_ecb.md R254). -/
theorem trimLen_pad_cases {data : List Byte} {bs n : Nat} (hbs : 0 < bs)
    (hn : n = trimLen (pad data bs) (paddedLen data.length bs)) :
    n ≤ data.length ∧ (data.length % bs ≠ 0 → n = data.length) ∧
    (data.length % bs = 0 → paddingIndex data = none → n = data.length) ∧
    ∀ i, data.length % bs = 0 → paddingIndex data = some i → n = i := by
  rw [hn, trimLen_pad hbs]
  refine ⟨?_, fun h => if_neg h, fun h hnone => ?_, fun i h hsome => ?_⟩
  · split_ifs
    · exact trimLen_le le_rfl
    · exact le_rfl
  · rw [if_pos h, trimLen_of_none hnone]
  · rw [if_pos h, trimLen_of_some hsome]

/-- Settles O54: CBCD reads what CBCE stored, the IV first, and undoes the chaining to the padded data, whose trimmed
length it reports. -/
theorem cbcRoundTripRecoversThePlaintext : Obligations.CbcRoundTripRecoversThePlaintext := by
  intro e s t v d hinv ht hok hv hvok bs data
  obtain ⟨hc, rfl⟩ := dataEffect_of_ok ⟨by decide, by decide⟩ ht hok
  obtain ⟨-, rfl⟩ := dataEffect_of_ok (s := onOutput (dataEffect .cbce e s) d) ⟨by decide, by decide⟩ hv hvok
  have hwf : (dataEffect .cbce e s).mem.wf = true := Memory.writeBytes_wf hinv.mem_wf _ _
  have hdata : data.length = s.len.toNat := memRead_length s s.src _
  have hreport := reportedLength_cbcd_of_cbce hinv hc d (data := data) rfl
  obtain ⟨hle, hcases⟩ := trimLen_pad_cases (blockLen_pos e) hreport
  have hlt : reportedLength .cbcd e (onOutput (dataEffect .cbce e s) d) < 2 ^ 32 :=
    (hle.trans hdata.le).trans_lt s.len.isLt
  refine ⟨memRead_dataEffect_iv hinv.mem_wf e, ?_, ?_⟩
  · have hstored := dataEffect_storedAt (s := onOutput (dataEffect .cbce e s) d) hwf .cbcd e
    rwa [storedBytes_cbcd_of_cbce hinv hc] at hstored
  · rw [dataEffect_outlen hlt]
    exact hcases

end Sys2Proof.Machine

/-! ## Proofs for the family 60_exceptions.md: the codes commands report, errors, and the event history -/

namespace Sys2Proof.Machine

/-! ### The event history (R306) -/

@[simp] theorem writeReg_history (s : State) (o : Nat) (v : Word) : (writeReg s o v).history = s.history := by
  unfold writeReg
  split_ifs <;> rfl

/-- A CMD write reports one code, whether the word is a command or illegal. -/
theorem writeCmd_history {s t : State} {v : Word} (h : writeCmd s v = .next t) : t.history = t.code :: s.history := by
  obtain ⟨i, -, hi⟩ | ⟨w, -, rfl⟩ := writeCmd_cases h
  · exact (exec_commandEffect hi).history_eq
  · rfl

/-- An access that is no CMD write leaves the event history alone. -/
theorem hostAccess_history {s t : State} {a : HostAccess} (h : hostAccess s a = .next t) :
    t.history = s.history ∨ t.history = t.code :: s.history ∧ ∃ v, a = .write 4 0 v := by
  obtain ⟨v, rfl, hv⟩ | ⟨o, v, -, -, rfl⟩ | ⟨o, -, rfl⟩ | ⟨x, bytes, -, -, rfl⟩ | ⟨-, rfl⟩ := hostAccess_cases h
  · exact .inr ⟨writeCmd_history hv, v, rfl⟩
  · exact .inl (writeReg_history s o v)
  · exact .inl rfl
  · exact .inl rfl
  · exact .inl rfl

/-- Settles O18, by the host's next access: only a CMD write reports a code. -/
theorem eventHistoryIsNeverCleared : Obligations.EventHistoryIsNeverCleared := by
  intro s t h
  obtain ⟨-, rfl⟩ | ⟨a, rest, hp, ha⟩ := step_cases h
  · exact .inl rfl
  · exact (hostAccess_history ha).imp_right fun ⟨hhist, v, hv⟩ => ⟨hhist, v, rest, hv ▸ hp⟩

/-! ### Commands that do not end OK (R302) -/

theorem dataCommand_error {o : Op} {e : Engine} {s : State} (h : (dataCommand o e s).code ≠ .ok) :
    dataCommand o e s = s.raise (dataCommand o e s).code := by
  cases hc : dataChecks o e s with
  | some c => rw [dataCommand_raise hc, raise_code]
  | none => exact absurd (by rw [dataCommand_effect hc]; rfl) h

theorem keyset_error {e : Engine} {s : State} {checks : Option StatusCode} {load : State → State}
    (h : (keyset e s checks load).code ≠ .ok) :
    keyset e s checks load = (s.wipeSlot .failed e).raise (keyset e s checks load).code := by
  cases checks with
  | some c => rfl
  | none => exact absurd rfl h

/-- A KEYSET that does not end OK wipes its slot, sets it FAILED and raises its code. -/
theorem exec_keyset_error {i : Instr} {s t : State} (hi : i.op = .keyset) (h : exec i s = .next t)
    (hc : t.code ≠ .ok) : t = (s.wipeSlot .failed i.engine).raise t.code := by
  rw [exec_keyset hi] at h
  cases h
  exact keyset_error hc

/-- Every other command that does not end OK raises its code and does nothing else; WIPE always ends OK. -/
theorem exec_error {i : Instr} {s t : State} (hi : i.op ≠ .keyset) (h : exec i s = .next t) (hc : t.code ≠ .ok) :
    t = s.raise t.code := by
  by_cases hw : i.op = .wipe
  · rw [exec_wipe hw] at h
    cases h
    exact absurd rfl hc
  · rw [exec_data ⟨hi, hw⟩] at h
    cases h
    exact dataCommand_error hc

/-- Settles O21: an error is `raise` alone, after the wipe of its slot for a KEYSET. -/
theorem errorsChangeOnlyTheStatus : Obligations.ErrorsChangeOnlyTheStatus := by
  intro i s t h hc
  refine ⟨fun hi => exec_error hi h hc, ?_, ?_, ?_⟩
  all_goals
    rintro rfl
    exact exec_keyset_error rfl h hc

/-! ### The priority of the codes (R303)

A command reports the code its checks answer, and OK if they answer none. Both the model's checks and the chain of R303
are lists of conditions in the same order, so they agree when their conditions do, operation by operation. -/

theorem dataCommand_code (o : Op) (e : Engine) (s : State) :
    (dataCommand o e s).code = (dataChecks o e s).getD .ok := by
  cases h : dataChecks o e s with
  | some c => rw [dataCommand_raise h]; rfl
  | none => rw [dataCommand_effect h]; rfl

theorem keyset_code (e : Engine) (s : State) :
    (keyset e s (keyChecks e s) (loadKey e)).code = (keyChecks e s).getD .ok := by
  cases h : keyChecks e s with
  | some c => rfl
  | none => cases e <;> rfl

/-- The code of a list of checks: its first condition decides, and the rest of the list otherwise. -/
theorem getD_check {p : Prop} [Decidable p] {c d : StatusCode} {r : Option StatusCode} :
    (if p then some c else r).getD d = if p then c else r.getD d := apply_ite (Option.getD · d) p _ _

/-- The ranges of a meeting may be named in either order (20_memory.md R60). -/
theorem overlaps_comm (a n b m : Nat) : overlaps a n b m = overlaps b m a n := by
  simp only [overlaps, decide_eq_decide]
  omega

/-- "No data" as the checks have it, and as R250 of 45_mode_ecb.md does. -/
theorem noData_iff (s : State) : s.src = Config.nullAddr ∨ s.len.toNat = 0 ↔ s.src = 0#32 ∨ s.len = 0#32 :=
  or_congr_right (BitVec.toNat_inj (x := s.len) (y := 0#32))

section
variable {o : Op} {bs : Nat} {s : State} {r v : Region}

/-- BUS for a command that reads one range, with the source before the destination as the checks have them. -/
theorem badRange_of_readRange (h : Spec.readRanges o bs s = [r]) :
    Spec.badRange o bs s =
      (!rangeOk s r.base r.size || !rangeOk s (Spec.writeRange o bs s).base (Spec.writeRange o bs s).size) := by
  rw [Spec.badRange, h, List.any_cons, List.any_cons, List.any_nil, Bool.or_false, Bool.or_comm]

/-- BUS for a command that reads a second range, a supplied IV (46_mode_cbc.md R272). -/
theorem badRange_of_readRanges (h : Spec.readRanges o bs s = [r, v]) :
    Spec.badRange o bs s =
      (!rangeOk s r.base r.size || !rangeOk s (Spec.writeRange o bs s).base (Spec.writeRange o bs s).size ||
        !rangeOk s v.base v.size) := by
  rw [Spec.badRange, h, List.any_cons, List.any_cons, List.any_cons, List.any_nil, Bool.or_false, ← Bool.or_assoc,
    Bool.or_comm (!rangeOk s r.base r.size)]

/-- A mode command may not work in place: any range it reads counts (20_memory.md R60). -/
theorem badOverlap_mode (h : Spec.isMode o = true) :
    Spec.badOverlap o bs s = (Spec.readRanges o bs s).any fun r =>
      overlaps (Spec.writeRange o bs s).base (Spec.writeRange o bs s).size r.base r.size := by
  rw [Spec.badOverlap, h]
  rfl

/-- R255 of 45_mode_ecb.md limits ECBE alone (log 11). -/
theorem badOutputLength_ecbe : Spec.badOutputLength .ecbe bs s = tooLong (paddedLen s.len.toNat bs) := rfl

end

/-- The engine rejects a key length when it is outside the range the checks have for the engine (R300). -/
theorem keyChecks_eq (e : Engine) (s : State) :
    keyChecks e s =
      if Spec.badKeyLength e s.len.toNat then some .keyLength
      else if !rangeOk s s.src.toNat s.len.toNat then some .bus
      else none := by
  cases e with
  | bf | gost | tw => simp [keyChecks, keysetChecks, Spec.badKeyLength]

theorem reportedCode_keyset {i : Instr} (h : i.op = .keyset) (s : State) :
    Spec.reportedCode i s = (keyChecks i.engine s).getD .ok := by
  have hbus : Spec.badRange .keyset (blockLen i.engine) s = !rangeOk s s.src.toNat s.len.toNat :=
    (badRange_of_readRange rfl).trans (Bool.or_false _)
  rw [Spec.reportedCode, if_pos h, h, hbus, keyChecks_eq]
  simp only [getD_check, Option.getD_none]

theorem reportedCode_wipe {i : Instr} (h : i.op = .wipe) (s : State) : Spec.reportedCode i s = .ok := by
  rw [Spec.reportedCode, h]
  rfl

/-- The checks of an operation on data are the conditions of R303, in that order. -/
theorem dataChecks_eq {o : Op} (h : onData o) (e : Engine) (s : State) :
    dataChecks o e s =
      if s.ks e ≠ .valid then some .noKey
      else if Spec.isMode o && (s.src == 0#32 || s.len == 0#32) then some .empty
      else if Spec.badLength o (blockLen e) s.len.toNat then some .length
      else if Spec.badRange o (blockLen e) s || Spec.badOutputLength o (blockLen e) s then some .bus
      else if Spec.badOverlap o (blockLen e) s then some .overlap
      else none := by
  have hempty := noData_iff s
  cases o with
  | keyset => exact absurd rfl h.1
  | wipe => exact absurd rfl h.2
  | encb | decb =>
    rw [badRange_of_readRange rfl]
    simp [dataChecks, blockChecks, Spec.isMode, Spec.badLength, Spec.badOutputLength, Spec.badOverlap,
      Spec.writeRange, Spec.readRanges, overlaps_comm s.dst.toNat]
  | ecbe =>
    rw [badRange_of_readRange rfl, badOverlap_mode rfl, badOutputLength_ecbe]
    simp [dataChecks, ecbeChecks, Spec.isMode, Spec.badLength, Spec.writeRange, Spec.readRanges, hempty]
  | ecbd =>
    rw [badRange_of_readRange rfl, badOverlap_mode rfl]
    simp [dataChecks, ecbdChecks, Spec.isMode, Spec.badLength, Spec.badOutputLength, Spec.writeRange, Spec.readRanges,
      hempty]
  | cbce =>
    rw [badOverlap_mode rfl]
    by_cases hiva : s.iva = 0#32
    · have hread : Spec.readRanges .cbce (blockLen e) s = [⟨s.src.toNat, s.len.toNat⟩] := if_pos hiva
      rw [badRange_of_readRange hread, hread]
      simp [dataChecks, cbceChecks, Spec.isMode, Spec.badLength, Spec.badOutputLength, Spec.writeRange, hempty,
        ivGenerated, hiva]
    · have hread : Spec.readRanges .cbce (blockLen e) s =
          [⟨s.src.toNat, s.len.toNat⟩, ⟨s.iva.toNat, blockLen e⟩] := if_neg hiva
      rw [badRange_of_readRanges hread, hread]
      simp [dataChecks, cbceChecks, Spec.isMode, Spec.badLength, Spec.badOutputLength, Spec.writeRange, hempty,
        ivGenerated, hiva]
  | cbcd =>
    rw [badRange_of_readRange rfl, badOverlap_mode rfl]
    simp [dataChecks, cbcdChecks, Spec.isMode, Spec.badLength, Spec.badOutputLength, Spec.writeRange, Spec.readRanges,
      hempty, or_comm]

theorem reportedCode_data {i : Instr} (h : onData i.op) (s : State) :
    Spec.reportedCode i s = (dataChecks i.op i.engine s).getD .ok := by
  rw [Spec.reportedCode, if_neg h.1, if_neg h.2, dataChecks_eq h]
  simp only [getD_check, Option.getD_none]

/-- Settles O20: a command's checks are the conditions of R303, and it reports the code they answer. -/
theorem codesFollowThePriorityOrder : Obligations.CodesFollowThePriorityOrder := by
  intro i s
  by_cases hk : i.op = .keyset
  · exact ⟨_, exec_keyset hk s, (keyset_code i.engine s).trans (reportedCode_keyset hk s).symm⟩
  by_cases hw : i.op = .wipe
  · exact ⟨_, exec_wipe hw s, (reportedCode_wipe hw s).symm⟩
  · exact ⟨_, exec_data ⟨hk, hw⟩ s, (dataCommand_code _ _ s).trans (reportedCode_data ⟨hk, hw⟩ s).symm⟩

end Sys2Proof.Machine

/-! ## Proofs for the family 70_reset_and_hazards.md: the reset event (R340) -/

namespace Sys2Proof.Machine

/-- A reset is never refused (70_reset_and_hazards.md R340). -/
theorem step_reset {s : State} {rest : List HostAccess} (h : s.pending = .reset :: rest) :
    step s = .next { s with pending := rest }.afterReset := step_access h

/-- Settles O9: the step is `afterReset` of the state with the access taken off, and each clause is one of its fields. -/
theorem resetClearsRegistersAndKeepsMemory : Obligations.ResetClearsRegistersAndKeepsMemory := by
  intro s rest h
  exact ⟨_, step_reset h, by simp⟩

end Sys2Proof.Machine
